-- ==== Sys2Proof/Word.lean ====
section
/-! DEFINITION. The widths of the VSC: what `spec/` treats as bits and nothing else.
Bit 0 is the least significant bit (R11). Counts, offsets and step indexes are `Nat`, the signed difference of the
compute unit is `Int` (R12, R91). -/

namespace Sys2Proof

/-- A host register or a command word: 32 bits (R20, R69). -/
abbrev Word := BitVec 32

/-- A channel count, and the field HI of a command word: 16 bits (R8 CHANNEL_WIDTH, R69). -/
abbrev Half := BitVec 16

/-- A bus byte, the configuration byte, the field ARG: 8 bits (R8 CFG_WIDTH, R61, R69). -/
abbrev Byte := BitVec 8

/-- The fields OP and RSV of a command word, and STATUS.CODE: 4 bits (R23, R69). -/
abbrev Nibble := BitVec 4

/-- An I2C device address: 7 bits (R14, R54). -/
abbrev Addr7 := BitVec 7

end Sys2Proof
end

