-- ==== Sys2Proof/Config.lean ====
section
/-! DEFINITION. What an implementation of the VSC fixes: the parameters of R8. "Configuration, not state" (R10).
The values the spec marks OPEN are arguments of the host-side definitions (`HostParams`), never numbers of the model. -/

namespace Sys2Proof.Config

/-- DEV_ADDR, "fixed 7-bit I2C address", immutable (R8, R54). -/
def devAddr : Addr7 := 0x10

/-- CMD_CONF, the command code of the device's configuration register (R8, R55). -/
def cmdConf : Byte := 0x00

/-- CMD_R, the command code of the Red count (R8, R55). -/
def cmdRed : Byte := 0x08

/-- CMD_G, the command code of the Green count (R8, R55). -/
def cmdGreen : Byte := 0x09

/-- CMD_B, the command code of the Blue count (R8, R55). -/
def cmdBlue : Byte := 0x0A

/-- CMD_W, the command code of the White count (R8, R55). -/
def cmdWhite : Byte := 0x0B

/-- The four values of the source's ChannelCode type (R72 check 5). -/
def channelCodes : List Byte := [cmdRed, cmdGreen, cmdBlue, cmdWhite]

/-- CFG_RESET, the cache's value at reset (R8, R43; spec decision D9). -/
def cfgReset : Byte := 0x00

/-- CFG_IT_MASK: the Integration Time field CFG[6:4] (R8, R34; the layout is the spec's decision D10). -/
def cfgItMask : Byte := 0x70

/-- CFG_IT_SHIFT (R8, R34). -/
def cfgItShift : Nat := 4

/-- CFG_TRIG: the Trigger bit CFG[2] (R8, R34). -/
def cfgTrig : Byte := 0x04

/-- CFG_AF: the auto/force bit CFG[1]; the VSC never interprets it (R8, R34). -/
def cfgAf : Byte := 0x02

/-- CFG_SD: the shutdown bit CFG[0]; the VSC never interprets it (R8, R34). -/
def cfgSd : Byte := 0x01

/-- GAIN_Q[0], in units of 1/200000 lux per count (R8, R94; spec decision D12). -/
def gainBase : Nat := 50336

/-- The last Integration Time code that has a gain (R93; spec decision D11). -/
def itMax : Nat := 5

/-- The sentinel RESULT of an unmapped gain: -1 as a signed 32-bit value (R93, R106; spec decision D13). -/
def sentinel : Word := 0xFFFFFFFF

/-- LUX_UNIT is 1/200000 lux: a LUX RESULT counts these units (R94). -/
def luxUnitsPerLux : Nat := 200000

/-- CCT_A is 42786/10: its numerator (R8, R97). -/
def cctANum : Nat := 42786

/-- CCT_A is 42786/10: its denominator (R8, R97). -/
def cctADen : Nat := 10

/-- CCT_E is 2491/2000: its numerator (R8, R97). -/
def cctENum : Nat := 2491

/-- CCT_E is 2491/2000: its denominator (R8, R97). -/
def cctEDen : Nat := 2000

/-- CCT_SAT (R8, R98; spec decision D16). -/
def cctSat : Nat := 0xFFFFFFFF

/-- A number of binary digits in which `cct_exact` of every 16-bit count fits: the largest is 10119336696 (95_test_vectors
V8), below 2^34. DEDUCED: it bounds the search for R97's greatest n and is no limit of the spec's (log entry 8). -/
def cctBits : Nat := 34

/-- RETRY_INTERVAL_MS when the host gives none (R8, R113, R139). -/
def retryIntervalDefaultMs : Nat := 1000

end Sys2Proof.Config

namespace Sys2Proof

/-- The parameters of R8 that the spec leaves OPEN or to the platform: every definition that needs one takes it as an
argument. No rule of the VSC depends on one (R113, R138, R139). -/
structure HostParams where
  /-- RETRY_MAX: a number of presence attempts, or UNBOUNDED (`none`) (R8, R113). -/
  retryMax : Option Nat
  /-- RETRY_INTERVAL_MS (R8, R113). -/
  retryIntervalMs : Nat := Config.retryIntervalDefaultMs
  /-- T_SETTLE_MS, the host's wait after TRIG (R8, R131). -/
  settleMs : Nat
  /-- The host base address of the register block, which the platform chooses (R20, U23). -/
  hostBase : Nat
  deriving DecidableEq, Repr

end Sys2Proof
end

