-- ==== Sys2Proof/Syntax.lean ====
section
/-! DEFINITION. The instructions of the VSC: its six host commands (R2, R71), one constructor for each row of
`spec/opcode_table.json`. Meaning is in `Sys2Proof/Machine/` alone. -/

namespace Sys2Proof

/-- A command of format C (R69). The field ARG is an operand of SETCFG and of RDCH only (R70). -/
inductive Instr where
  /-- CHKP: presence check (R83). -/
  | chkp
  /-- SETCFG: set configuration, with the configuration byte (R85). -/
  | setcfg (cfg : Byte)
  /-- RDCH: raw channel read, with the device command code, sent unchanged (R70, R87). -/
  | rdch (code : Byte)
  /-- CCT: correlated colour temperature (R100). -/
  | cct
  /-- LUX: ambient light (R92). -/
  | lux
  /-- TRIG: trigger measurement (R89). -/
  | trig
  deriving DecidableEq, Repr

end Sys2Proof
end

