-- ==== Sys2Proof/Machine/State.lean ====
section
/-! DEFINITION. The state of the VSC (R19 to R44), and what the model keeps of the two agents around it: the host's
coming actions, the transport's coming answers, the bus trace and the values host reads returned. Plain data throughout. -/

namespace Sys2Proof.Machine

/-- The commands of the sequencer: the six of R71, and ILLEGAL (R36, R72). -/
inductive Cmd where
  | chkp | setcfg | rdch | cct | lux | trig | illegal
  deriving DecidableEq, Repr

/-- SEQ, the sequencer position (R36). -/
inductive Seq where
  /-- IDLE: the VSC waits for a CMD write. -/
  | idle
  /-- RUN(op, i): at entry i of op's step list (R80). -/
  | run (op : Cmd) (i : Nat)
  /-- ABORT(j), j in 0, 1: on the abort path (R109). -/
  | abort (j : Fin 2)
  deriving DecidableEq, Repr

/-- STATUS.CODE: the six codes the VSC writes. Codes 6 to 15 are reserved and never written (R29), so they have no
constructor. -/
inductive Code where
  | ok | busError | divFault | unmappedGain | cctDomain | illegalCmd
  deriving DecidableEq, Repr

/-- The outcome of a bus primitive: two values and no recorded cause (R51). Its bit on the port is `BusOutcome.bit` of Operands.lean. -/
inductive BusOutcome where
  | ok | fail
  deriving DecidableEq, Repr

/-- The direction of an addressed transaction (R14). -/
inductive Dir where
  | write | read
  deriving DecidableEq, Repr

/-- The acknowledge policy of a byte read (R49). -/
inductive Ack where
  | ack | nack
  deriving DecidableEq, Repr

/-- A bus primitive together with its answer (R14, R17). -/
inductive BusEvent where
  | start (addr : Addr7) (dir : Dir) (o : BusOutcome)
  | restart (addr : Addr7) (dir : Dir) (o : BusOutcome)
  | write (b : Byte) (o : BusOutcome)
  | read (a : Ack) (b : Byte)
  | stop
  deriving DecidableEq, Repr

/-- One turn of the outside world. Widths are in bytes and offsets from the host base address (R20, R21). -/
inductive HostEvent where
  /-- The host does nothing: the sequencer takes its turn. -/
  | turn
  /-- A host read of `width` bytes at `offset`. -/
  | read (offset width : Nat)
  /-- A host write of `width` bytes at `offset`. -/
  | write (offset width : Nat) (value : Word)
  /-- The reset input is asserted, for this one turn (R125; DESIGN CHOICE, log entry 17). -/
  | reset
  deriving DecidableEq, Repr

/-- The channel temporaries (R40). -/
inductive Temp where
  | red | green | blue
  deriving DecidableEq, Repr

/-- What a WR step sends: a fixed byte, the latch V, or the latch ARG (R80). -/
inductive WrSource where
  | const (b : Byte) | v | arg
  deriving DecidableEq, Repr

/-- The step kinds of R79. `stopTo` is the rule's STOP>T. -/
inductive StepKind where
  | start | wr (x : WrSource) | rs | rda | rdn | stop | stopTo (t : Temp) | fin
  deriving DecidableEq, Repr

/-- The state of one VSC, and of the agents it meets. -/
structure State where
  /-- STATUS.BUSY (R24). -/
  busy : Bool
  /-- STATUS.DONE (R25). -/
  done : Bool
  /-- STATUS.OVR (R26). -/
  ovr : Bool
  /-- STATUS.CODE (R29). -/
  code : Code
  /-- RESULT (R30). -/
  result : Word
  /-- CFG_CACHE, the last successfully applied configuration (R33). -/
  cfgCache : Byte
  /-- SEQ (R36). -/
  seq : Seq
  /-- The latch OP (R38). -/
  op : Nibble
  /-- The latch ARG (R38). -/
  arg : Byte
  /-- The latch RSV (R38). -/
  rsv : Nibble
  /-- The latch HI (R38). -/
  hi : Half
  /-- The latch V, the configuration value a SETCFG or TRIG writes (R38). -/
  v : Byte
  /-- The read-byte latch B0 (R39). -/
  b0 : Byte
  /-- The read-byte latch B1 (R39). -/
  b1 : Byte
  /-- TMP_R (R40). -/
  tmpR : Half
  /-- TMP_G (R40). -/
  tmpG : Half
  /-- TMP_B (R40). -/
  tmpB : Half
  /-- BUS_OPEN: the VSC owes the bus a stop (R41). -/
  busOpen : Bool
  /-- The MODEL's own field: what the outside world does on its coming turns, first turn first. An empty list is a host that
  does nothing more. It is an input (R9 agent 1) and says how the agents interleave (log entry 2). -/
  host : List HostEvent
  /-- The MODEL's own field: the outcomes the transport will answer to the coming BusStart, BusRestart and BusWrite requests.
  Each is a free draw (R9, R52, U14). An empty list is a transport that has not answered (log entry 1). -/
  outcomes : List BusOutcome
  /-- The MODEL's own field: the bytes the transport will return to the coming BusRead requests, each a free draw (R49, R61,
  log entry 1). -/
  bytes : List Byte
  /-- The MODEL's own field: the bus trace (R17) of the command accepted last, first primitive first; what a test bench at the
  transport records (R123, log entry 3). -/
  trace : List BusEvent
  /-- The MODEL's own field: the values that host reads returned, first read first (log entry 3). -/
  reads : List Word
  deriving DecidableEq, Repr

/-- Why the machine stops. -/
inductive Fault where
  /-- Raised by the sequencer at a RUN(op, i) whose i is past op's step list. R36 and R80 give no such position, so the model
  stops (log entry 6). Safe: no run reaches one (the invariant `Sequenced` of Safety.lean rules it out). -/
  | seqOutOfRange
  deriving DecidableEq, Repr

/-- What the model does not do. -/
inductive Refusal where
  /-- Raised by a refused arm of `exec`: an instruction without a meaning. No arm is refused. Safe. -/
  | notModelled (mnemonic : String)
  /-- Raised by a host access that is not a naturally aligned 32-bit access at 0x0, 0x4, 0x8 or 0xC: "A model refuses any
  other access" (R21, U8). Safe: the VSC's behaviour there is not defined. -/
  | hostAccess (offset width : Nat)
  deriving DecidableEq, Repr

/-- What a step answers. -/
abbrev Outcome := Host.Outcome State Fault Refusal

/-- The machine right after reset (R43). The latches and temporaries, which R43 leaves unspecified, are 0 (DESIGN CHOICE, log
entry 4); the outside world has nothing queued (DESIGN CHOICE, log entries 1 to 3). -/
def State.reset : State where
  busy := false
  done := false
  ovr := false
  code := .ok
  result := 0
  cfgCache := Config.cfgReset
  seq := .idle
  op := 0
  arg := 0
  rsv := 0
  hi := 0
  v := 0
  b0 := 0
  b1 := 0
  tmpR := 0
  tmpG := 0
  tmpB := 0
  busOpen := false
  host := []
  outcomes := []
  bytes := []
  trace := []
  reads := []

end Sys2Proof.Machine
end

