-- ==== Sys2Proof/Machine/Flags.lean ====
section
/-! DEFINITION. The status fields as software sees them: the numbers of CODE (R29), the STATUS word (R23), and the view the
CFG register gives of the cache (R32). -/

namespace Sys2Proof.Machine

/-- The CODE numbers of R29. -/
def Code.bits : Code → Nibble
  | .ok => 0
  | .busError => 1
  | .divFault => 2
  | .unmappedGain => 3
  | .cctDomain => 4
  | .illegalCmd => 5

/-- A flag as a bit. -/
def flag (b : Bool) : BitVec 1 := BitVec.ofBool b

/-- STATUS: BUSY at bit 0, DONE at 1, OVR at 2, CODE at 7:4, every other bit 0 (R23). -/
def State.statusWord (s : State) : Word :=
  (0 : BitVec 24) ++ s.code.bits ++ (0 : BitVec 1) ++ flag s.ovr ++ flag s.done ++ flag s.busy

/-- CFG reads zext_32(CFG_CACHE) (R32). -/
def State.cfgWord (s : State) : Word := s.cfgCache.setWidth 32

end Sys2Proof.Machine
end

