-- ==== Sys2Proof/WellFormed.lean ====
section
/-! DEFINITION. Which instructions the encoding has: one check, R72's check 5. The other commands have no operand, and
SETCFG takes any byte (R35, R85). -/

namespace Sys2Proof

/-- RDCH's code is one of Red, Green, Blue and White (R72 check 5, R87). -/
def Instr.wellFormed : Instr → Bool
  | .chkp => true
  | .setcfg _ => true
  | .rdch code => Config.channelCodes.contains code
  | .cct => true
  | .lux => true
  | .trig => true

end Sys2Proof
end

