-- ==== Sys2Proof/Decode.lean ====
section
/-! DEFINITION. The command word: its fields (R69), the decode check in the order of R72, the encoder, and the view of the
decoder that the host's opcode table uses. Decoding is total (R74): a word is one of the six commands or is rejected by name,
and a rejected word is the spec's ILLEGAL. -/

namespace Sys2Proof

/-- OP = w[3:0] (R69). -/
def wordOp (w : Word) : Nibble := w.extractLsb' 0 4

/-- RSV = w[7:4] (R69). -/
def wordRsv (w : Word) : Nibble := w.extractLsb' 4 4

/-- ARG = w[15:8] (R69). -/
def wordArg (w : Word) : Byte := w.extractLsb' 8 8

/-- HI = w[31:16] (R69). -/
def wordHi (w : Word) : Half := w.extractLsb' 16 16

/-- Format C: the word with these four fields (R69). -/
def wordOf (hi : Half) (arg : Byte) (rsv op : Nibble) : Word :=
  (hi.setWidth 32 <<< 16) ||| (arg.setWidth 32 <<< 8) ||| (rsv.setWidth 32 <<< 4) ||| op.setWidth 32

/-- Which check of R72 a word fails first. All five make the command ILLEGAL, with one CODE (R108). -/
inductive DecodeError where
  /-- Check 1: HI is not 0. -/
  | highHalfNotZero
  /-- Check 2: RSV is not 0. -/
  | reservedNotZero
  /-- Check 3: OP is 0x0 or 0x7 to 0xF (R73). -/
  | reservedOpcode (op : Nibble)
  /-- Check 4: ARG is not 0 where the command takes none. -/
  | strayArgument (arg : Byte)
  /-- Check 5: RDCH's ARG is none of the four channel codes. -/
  | noSuchChannel (code : Byte)
  deriving DecidableEq, Repr

/-- A command that takes no argument: check 4 of R72. -/
def withoutArg (i : Instr) (arg : Byte) : Except DecodeError Instr :=
  if arg = 0 then .ok i else .error (.strayArgument arg)

/-- Checks 3, 4 and 5 of R72 over the opcodes of R71. -/
def decodeOp (op : Nibble) (arg : Byte) : Except DecodeError Instr :=
  match op.toNat with
  | 1 => withoutArg .chkp arg
  | 2 => .ok (.setcfg arg)
  | 3 => if Config.channelCodes.contains arg then .ok (.rdch arg) else .error (.noSuchChannel arg)
  | 4 => withoutArg .cct arg
  | 5 => withoutArg .lux arg
  | 6 => withoutArg .trig arg
  | _ => .error (.reservedOpcode op)

/-- The decode check of R72, in its order: the first check that fails makes the command ILLEGAL. -/
def decode (w : Word) : Except DecodeError Instr :=
  if wordHi w ≠ 0 then .error .highHalfNotZero
  else if wordRsv w ≠ 0 then .error .reservedNotZero
  else decodeOp (wordOp w) (wordArg w)

/-- The opcode of a command (R71). -/
def Instr.opcode : Instr → Nibble
  | .chkp => 1
  | .setcfg _ => 2
  | .rdch _ => 3
  | .cct => 4
  | .lux => 5
  | .trig => 6

/-- The argument byte of a command: 0 where it takes none (R69, R71). -/
def Instr.argument : Instr → Byte
  | .chkp => 0
  | .setcfg cfg => cfg
  | .rdch code => code
  | .cct => 0
  | .lux => 0
  | .trig => 0

/-- The command word of an instruction (R69, R71). -/
def encode (i : Instr) : Word := wordOf 0 i.argument 0 i.opcode

/-- The instruction that the decoder reads from an opcode-table word of `nbits` bits (bits above them are 0). A command is one
32-bit word (R75), so its bit numbers are the table's. -/
def decodeTableWord (nbits w : Nat) : Option Instr :=
  match decode (BitVec.ofNat 32 (w % 2 ^ nbits)) with
  | .ok i => some i
  | .error _ => none

end Sys2Proof
end

