-- ==== Sys2Proof/Machine/Operands.lean ====
section
/-! DEFINITION. Operand forms: the fields of the configuration byte, the bytes a WR step sends, the little-endian channel
count, the channel temporaries, the command a word stands for, the encoding of an outcome on the transport's port, and the byte
orders the spec names. -/

namespace Sys2Proof.Machine

/-- The sequencer's name of an instruction (R36). -/
def cmdOf : Instr → Cmd
  | .chkp => .chkp
  | .setcfg _ => .setcfg
  | .rdch _ => .rdch
  | .cct => .cct
  | .lux => .lux
  | .trig => .trig

/-- The command a CMD word starts: ILLEGAL when R72 rejects the word (R27, R74). -/
def classify (w : Word) : Cmd :=
  match decode w with
  | .ok i => cmdOf i
  | .error _ => .illegal

/-- SETCFG and TRIG, the commands whose FINISH may load CFG_CACHE (R81 item 2). -/
def Cmd.loadsCfg : Cmd → Bool
  | .setcfg => true
  | .trig => true
  | .chkp => false
  | .rdch => false
  | .cct => false
  | .lux => false
  | .illegal => false

/-- The Integration Time code k = CFG[6:4] (R34, R93). -/
def itCode (cfg : Byte) : Nat := ((cfg &&& Config.cfgItMask) >>> Config.cfgItShift).toNat

/-- The Trigger bit CFG[2] (R34). -/
def trigBit (cfg : Byte) : Bool := (cfg &&& Config.cfgTrig) != 0

/-- The measurement mode bit CFG[1]: 1 is force (R34). Only the host reads it (R128). -/
def forceBit (cfg : Byte) : Bool := (cfg &&& Config.cfgAf) != 0

/-- The shutdown bit CFG[0] (R34). The VSC passes it through (R124). -/
def shutdownBit (cfg : Byte) : Bool := (cfg &&& Config.cfgSd) != 0

/-- TRIG's payload: the cached configuration with the Trigger bit set (R27, R70, R89). -/
def triggered (cfg : Byte) : Byte := cfg ||| Config.cfgTrig

/-- The little-endian combine: count = (B1 << 8) | B0 (R58). -/
def combine (b0 b1 : Byte) : Half := b1 ++ b0

/-- The byte a WR step sends (R80). -/
def WrSource.value (s : State) : WrSource → Byte
  | .const b => b
  | .v => s.v
  | .arg => s.arg

/-- Write a channel temporary (R40). -/
def State.setTemp (s : State) (t : Temp) (x : Half) : State :=
  match t with
  | .red => { s with tmpR := x }
  | .green => { s with tmpG := x }
  | .blue => { s with tmpB := x }

/-- The port's encoding of an outcome, one bit: 0 = OK, 1 = FAIL (R51). -/
def BusOutcome.bit : BusOutcome → BitVec 1
  | .ok => 0#1
  | .fail => 1#1

/-- The outcome that the port's bit stands for (R51). -/
def BusOutcome.ofBit (b : BitVec 1) : BusOutcome := if b = 0#1 then .ok else .fail

/-- The address byte of a standard I2C wire, (addr7 << 1) | d with d = 0 for write and 1 for read (R53). For the builder of
a transport: no rule of the VSC depends on it. -/
def wireAddress (a : Addr7) (d : Dir) : Byte :=
  a ++ (match d with | .write => 0#1 | .read => 1#1)

/-- A host register as a byte-addressed platform sees it: bits 7:0 at the lowest byte address (R59). -/
def hostBytes (w : Word) : List Byte :=
  [w.extractLsb' 0 8, w.extractLsb' 8 8, w.extractLsb' 16 8, w.extractLsb' 24 8]

end Sys2Proof.Machine
end

