-- ==== Sys2Proof/Machine/Ops.lean ====
section
/-! DEFINITION. The shared operations of the VSC: the five bus primitives (R14, R45 to R50), the advance of SEQ (R37), the
accept and the overrun of a CMD write (R27, R28), FINISH (R81), the abort path, which plays the part of taking an exception
and returning from it (R109, R110), the reset input (R125), and one entry of a step list (R79). The VSC has no memory of its
own (20_memory.md): the bus primitives play the part of the loads and stores. -/

namespace Sys2Proof.Machine

/-- Record a bus primitive in the trace (R17). -/
def State.record (s : State) (e : BusEvent) : State := { s with trace := s.trace ++ [e] }

/-- The transport's answer to a request that has an outcome: the next draw, or none while it has not answered (R45, R52). -/
def State.takeOutcome (s : State) : Option (BusOutcome × State) :=
  match s.outcomes with
  | [] => none
  | o :: rest => some (o, { s with outcomes := rest })

/-- The transport's answer to a byte read: the next draw, or none while it has not answered (R49, R52). -/
def State.takeByte (s : State) : Option (Byte × State) :=
  match s.bytes with
  | [] => none
  | b :: rest => some (b, { s with bytes := rest })

/-- `o <- BusStart(addr7, dir)`. It sets BUS_OPEN whatever the outcome (R41, R46). -/
def State.busStart (s : State) (addr : Addr7) (dir : Dir) : Option (BusOutcome × State) :=
  match s.takeOutcome with
  | none => none
  | some (o, t) => some (o, { t.record (.start addr dir o) with busOpen := true })

/-- `o <- BusRestart(addr7, dir)` (R47). -/
def State.busRestart (s : State) (addr : Addr7) (dir : Dir) : Option (BusOutcome × State) :=
  match s.takeOutcome with
  | none => none
  | some (o, t) => some (o, t.record (.restart addr dir o))

/-- `o <- BusWrite(byte)` (R48). -/
def State.busWrite (s : State) (b : Byte) : Option (BusOutcome × State) :=
  match s.takeOutcome with
  | none => none
  | some (o, t) => some (o, t.record (.write b o))

/-- `b <- BusRead(ack)`: it cannot fail (R49). -/
def State.busRead (s : State) (a : Ack) : Option (Byte × State) :=
  match s.takeByte with
  | none => none
  | some (b, t) => some (b, t.record (.read a b))

/-- `BusStop()`: it has no outcome and always completes, without a draw (log entry 5); it clears BUS_OPEN (R41, R50). -/
def State.busStop (s : State) : State := { s.record .stop with busOpen := false }

/-- SEQ <- RUN(op, i+1) (R37 case 1). -/
def State.advance (s : State) (c : Cmd) (i : Nat) : State := { s with seq := .run c (i + 1) }

/-- ENTERING THE ABORT PATH, the VSC's trap entry: SEQ <- ABORT(0). It saves nothing and changes no mode; the remaining steps
of the command are discarded (R37 case 2, R109). -/
def State.enterAbort (s : State) : State := { s with seq := .abort 0 }

/-- SEQ after a primitive that answered o: on OK the next entry, on FAIL the abort path (R79). -/
def State.follow (s : State) (c : Cmd) (i : Nat) (o : BusOutcome) : State :=
  match o with
  | .ok => s.advance c i
  | .fail => s.enterAbort

/-- FINISH: every host-visible result in one step (R81). `loadsCfg` says whether the command is SETCFG or TRIG. -/
def State.finish (s : State) (loadsCfg : Bool) (code : Code) (result : Word) : State :=
  { s with
    cfgCache := if loadsCfg ∧ code = .ok then s.v else s.cfgCache
    code := code
    result := result
    busy := false
    done := true
    seq := .idle }

/-- A step of the abort path (R109): ABORT(0) issues the stop; ABORT(1) is the return, FINISH with BUS_ERROR and RESULT 0,
which loads no cache (R33) and leaves the VSC idle (R110). -/
def State.abortStep (s : State) (j : Fin 2) : State :=
  if j = 0 then { s.busStop with seq := .abort 1 } else s.finish false .busError 0

/-- Accept: a CMD write of w while BUSY = 0, as one step (R27). The latches take the word's fields whatever the decode check
says; V is formed from OP alone (log entry 9); CODE and RESULT keep their values. The trace begins anew (log entry 3). -/
def State.accept (s : State) (w : Word) : State :=
  { s with
    op := wordOp w
    arg := wordArg w
    rsv := wordRsv w
    hi := wordHi w
    busy := true
    done := false
    ovr := false
    v := if wordOp w = 6 then triggered s.cfgCache else if wordOp w = 2 then wordArg w else s.v
    seq := .run (classify w) 0
    trace := [] }

/-- Overrun: a CMD write while BUSY = 1 is dropped and changes nothing but OVR (R28). -/
def State.overrun (s : State) : State := { s with ovr := true }

/-- The reset input: every register of the VSC takes its reset value at once; no bus primitive is issued, and the agents
around the VSC keep what they hold (R125, R126, R127, log entry 11). -/
def State.resetInput (s : State) : State :=
  { State.reset with
    host := s.host
    outcomes := s.outcomes
    bytes := s.bytes
    trace := s.trace
    reads := s.reads }

/-- The latched command word, HI:ARG:RSV:OP (R38). -/
def State.latchedWord (s : State) : Word := wordOf s.hi s.arg s.rsv s.op

/-- The channel count that the read-byte latches hold (R39, R58). -/
def State.count (s : State) : Half := combine s.b0 s.b1

/-- One entry of a step list at RUN(c, i) (R79). A step that needs an answer the transport has not given leaves the state as
it is: the VSC waits without limit (R52, log entry 5). `fin` computes the command's (code, result) pair in FINISH. -/
def State.runEntry (s : State) (c : Cmd) (i : Nat) (fin : State → Code × Word) (k : StepKind) : State :=
  match k with
  | .start =>
    match s.busStart Config.devAddr .write with
    | none => s
    | some (o, t) => t.follow c i o
  | .wr x =>
    match s.busWrite (x.value s) with
    | none => s
    | some (o, t) => t.follow c i o
  | .rs =>
    match s.busRestart Config.devAddr .read with
    | none => s
    | some (o, t) => t.follow c i o
  | .rda =>
    match s.busRead .ack with
    | none => s
    | some (b, t) => { t with b0 := b }.advance c i
  | .rdn =>
    match s.busRead .nack with
    | none => s
    | some (b, t) => { t with b1 := b }.advance c i
  | .stop => s.busStop.advance c i
  | .stopTo t => (s.busStop.setTemp t s.count).advance c i
  | .fin => s.finish c.loadsCfg (fin s).1 (fin s).2

/-- Entry i of op's step list (R36, R80). -/
def State.runList (s : State) (c : Cmd) (steps : List StepKind) (fin : State → Code × Word) (i : Nat) : Outcome :=
  match steps[i]? with
  | some k => .next (s.runEntry c i fin k)
  | none => .fault .seqOutOfRange

/-- THE NEXT TRANSITION OF THE VSC ON BEHALF OF ONE COMMAND. SEQ says which (R36, R37): at IDLE the command word w is accepted
(R27); at RUN(c, i) entry i of the command's own step list is taken (R80); on the abort path its next step (R109). Where another
command is in flight this one is dropped (R28, log entry 6). -/
def State.perform (s : State) (c : Cmd) (w : Word) (steps : List StepKind) (fin : State → Code × Word) : Outcome :=
  match s.seq with
  | .idle => .next (s.accept w)
  | .run c' i => if c' = c then s.runList c steps fin i else .next s.overrun
  | .abort j => .next (s.abortStep j)

end Sys2Proof.Machine
end

