-- ==== Sys2Proof/Machine/Compute.lean ====
section
/-! DEFINITION. The compute unit and the commands of 41_compute.md: LUX (R92 to R95) and CCT (R96 to R102). Every intermediate
value is a mathematical integer (R91); only the LUX product and the saturated CCT are narrowed to RESULT. -/

namespace Sys2Proof.Machine

/-- GAIN_Q[k] = 50336 >> k, in units of 1/200000 lux per count (R94). -/
def gainQ (k : Nat) : Nat := Config.gainBase >>> k

/-- lux_fin (R93): the exact product, or the sentinel where the cached Integration Time has no gain. -/
def luxFin (g : Half) (cfg : Byte) : Code × Word :=
  if Config.itMax < itCode cfg then (.unmappedGain, Config.sentinel)
  else (.ok, BitVec.ofNat 32 (g.toNat * gainQ (itCode cfg)))

/-- p = 2(R - B) + G, signed (R96). -/
def cctP (r g b : Half) : Int := 2 * ((r.toNat : Int) - (b.toNat : Int)) + (g.toNat : Int)

/-- q = 2G (R96). -/
def cctQ (g : Half) : Nat := 2 * g.toNat

/-- The integer criterion of R97: (10n)^2000 * p^2491 <= 42786^2000 * q^2491. -/
def cctMeets (p q n : Nat) : Bool :=
  Nat.ble ((Config.cctADen * n) ^ Config.cctEDen * p ^ Config.cctENum) (Config.cctANum ^ Config.cctEDen * q ^ Config.cctENum)

/-- The greatest number below acc + 2^bits that meets a downward closed criterion met by acc, one binary digit at a time. -/
def searchGreatest (meets : Nat → Bool) : Nat → Nat → Nat
  | 0, acc => acc
  | k + 1, acc =>
    match meets (acc + 2 ^ k) with
    | true => searchGreatest meets k (acc + 2 ^ k)
    | false => searchGreatest meets k acc

/-- cct_exact(p, q): the greatest n that meets the criterion (R97), for the p and q of 16-bit counts. -/
def cctExact (p q : Nat) : Nat := searchGreatest (cctMeets p q) Config.cctBits 0

/-- cct_fin (R99): DIV_FAULT first, then CCT_DOMAIN, then the exact value saturated at 32 bits (R98). -/
def cctFin (r g b : Half) : Code × Word :=
  if g.toNat = 0 then (.divFault, 0)
  else if cctP r g b ≤ 0 then (.cctDomain, 0)
  else (.ok, BitVec.ofNat 32 (min (cctExact (cctP r g b).toNat (cctQ g)) Config.cctSat))

/-- One channel read into a temporary: START; WR(code); RS; RDA; RDN; STOP>T (R57, R80). -/
def readInto (code : Byte) (t : Temp) : List StepKind := [.start, .wr (.const code), .rs, .rda, .rdn, .stopTo t]

/-- LUX: the Green read; FIN (R80). -/
def luxSteps : List StepKind := readInto Config.cmdGreen .green ++ [.fin]

/-- LUX: ambient light (R92). -/
def execLux (s : State) : Outcome := s.perform .lux (encode .lux) luxSteps (fun t => luxFin t.tmpG t.cfgCache)

/-- CCT: the Red, the Green and the Blue read, in that order; FIN (R80). -/
def cctSteps : List StepKind :=
  readInto Config.cmdRed .red ++ readInto Config.cmdGreen .green ++ readInto Config.cmdBlue .blue ++ [.fin]

/-- CCT: correlated colour temperature (R100). -/
def execCct (s : State) : Outcome :=
  s.perform .cct (encode .cct) cctSteps (fun t => cctFin t.tmpR t.tmpG t.tmpB)

end Sys2Proof.Machine
end

