-- ==== Sys2Proof/Machine/Protocol.lean ====
section
/-! DEFINITION. The protocol commands of 40_protocol.md: CHKP (R83), SETCFG (R85), RDCH (R87) and TRIG (R89), and the ILLEGAL
command of R72. Each has its step list (R80), its (code, result) pair in FINISH (R81), and its meaning. -/

namespace Sys2Proof.Machine

/-- CHKP: START; STOP; FIN (R80). -/
def chkpSteps : List StepKind := [.start, .stop, .fin]

/-- CHKP's FINISH after a BusStart that answered OK; a FAIL has gone to the abort path (R83). -/
def chkpFin (_ : State) : Code × Word := (.ok, 0)

/-- CHKP: presence check (R83, R84). -/
def execChkp (s : State) : Outcome := s.perform .chkp (encode .chkp) chkpSteps chkpFin

/-- SETCFG: START; WR(CMD_CONF); WR(V); STOP; FIN (R56, R80). -/
def setcfgSteps : List StepKind := [.start, .wr (.const Config.cmdConf), .wr .v, .stop, .fin]

/-- SETCFG's FINISH on the success path; FINISH itself loads CFG_CACHE (R81, R85). -/
def setcfgFin (_ : State) : Code × Word := (.ok, 0)

/-- SETCFG: set configuration, any byte (R85, R86). -/
def execSetcfg (cfg : Byte) (s : State) : Outcome := s.perform .setcfg (encode (.setcfg cfg)) setcfgSteps setcfgFin

/-- RDCH: START; WR(ARG); RS; RDA; RDN; STOP; FIN (R57, R80). -/
def rdchSteps : List StepKind := [.start, .wr .arg, .rs, .rda, .rdn, .stop, .fin]

/-- RDCH's FINISH: the count, read from B1:B0 directly (R40, R87). -/
def rdchFin (s : State) : Code × Word := (.ok, s.count.setWidth 32)

/-- RDCH: raw channel read (R87, R88). A code outside the four channels is ILLEGAL at accept (R72). -/
def execRdch (code : Byte) (s : State) : Outcome := s.perform .rdch (encode (.rdch code)) rdchSteps rdchFin

/-- TRIG: START; WR(0x00); WR(V); STOP; FIN (R56, R80). -/
def trigSteps : List StepKind := [.start, .wr (.const Config.cmdConf), .wr .v, .stop, .fin]

/-- TRIG's FINISH on the success path; FINISH itself loads CFG_CACHE (R81, R89). -/
def trigFin (_ : State) : Code × Word := (.ok, 0)

/-- TRIG: trigger measurement (R89, R90). V was formed at accept (R27). -/
def execTrig (s : State) : Outcome := s.perform .trig (encode .trig) trigSteps trigFin

/-- ILLEGAL: FIN alone (R72, R80). -/
def illegalSteps : List StepKind := [.fin]

/-- ILLEGAL's FINISH (R72, R108). -/
def illegalFin (_ : State) : Code × Word := (.illegalCmd, 0)

end Sys2Proof.Machine
end

