-- ==== Sys2Proof/Machine/Dispatch.lean ====
section
/-! DEFINITION. The dispatch: one arm per row of the opcode table (R71). -/

namespace Sys2Proof.Machine

def exec (i : Instr) (s : State) : Host.Outcome State Fault Refusal :=
  match i with
  | .chkp => Sys2Proof.Machine.execChkp s
  | .setcfg cfg => Sys2Proof.Machine.execSetcfg cfg s
  | .rdch code => Sys2Proof.Machine.execRdch code s
  | .cct => Sys2Proof.Machine.execCct s
  | .lux => Sys2Proof.Machine.execLux s
  | .trig => Sys2Proof.Machine.execTrig s

end Sys2Proof.Machine
end

