-- ==== Sys2Proof/Machine/Sequencer.lean ====
section
/-! DEFINITION. The sequencer agent (R9 agent 2): which command is in flight, and the sequencer's turn. SEQ plays the part of
the program counter (R36), the latches that of the fetched instruction (R38). -/

namespace Sys2Proof.Machine

/-- The step list of R80 that a command's positions index. -/
def stepsOf : Cmd → List StepKind
  | .chkp => chkpSteps
  | .setcfg => setcfgSteps
  | .rdch => rdchSteps
  | .cct => cctSteps
  | .lux => luxSteps
  | .trig => trigSteps
  | .illegal => illegalSteps

/-- The instruction in flight: named by SEQ, its operand in the latch ARG (R36, R38). ILLEGAL is no instruction. -/
def State.inFlight (s : State) : Option Instr :=
  match s.seq with
  | .run .chkp _ => some .chkp
  | .run .setcfg _ => some (.setcfg s.arg)
  | .run .rdch _ => some (.rdch s.arg)
  | .run .cct _ => some .cct
  | .run .lux _ => some .lux
  | .run .trig _ => some .trig
  | .run .illegal _ => none
  | .idle => none
  | .abort _ => none

/-- The ILLEGAL command's one-step list (R72, R80). -/
def State.runIllegal (s : State) (i : Nat) : Outcome := s.runList .illegal illegalSteps illegalFin i

/-- The sequencer's turn: at IDLE nothing is enabled (R125); a command in flight takes its next entry (R37); the abort path and
ILLEGAL take their own. -/
def State.sequencerTurn (s : State) : Outcome :=
  match s.inFlight with
  | some i => exec i s
  | none =>
    match s.seq with
    | .idle => .next s
    | .run _ i => s.runIllegal i
    | .abort j => .next (s.abortStep j)

end Sys2Proof.Machine
end

