-- ==== Sys2Proof/Machine/HostPort.lean ====
section
/-! DEFINITION. The host interface: the register map (R20), reads and writes (R21 to R32, R42), and the reset input (R125). No
access is checked against a mode (R118). -/

namespace Sys2Proof.Machine

/-- The four host registers (R20). -/
inductive HostReg where
  | cmd | status | result | cfg
  deriving DecidableEq, Repr

/-- The register map of R20. -/
def hostRegAt (offset : Nat) : Option HostReg :=
  match offset with
  | 0x0 => some .cmd
  | 0x4 => some .status
  | 0x8 => some .result
  | 0xC => some .cfg
  | _ => none

/-- The register an access reaches: only a naturally aligned 32-bit access at a register's offset reaches one (R21). -/
def hostTarget (offset width : Nat) : Option HostReg :=
  if width = 4 then hostRegAt offset else none

/-- The platform's address of a host register (R20). -/
def hostAddress (p : HostParams) : HostReg → Nat
  | .cmd => p.hostBase + 0x0
  | .status => p.hostBase + 0x4
  | .result => p.hostBase + 0x8
  | .cfg => p.hostBase + 0xC

/-- What a host read returns: CMD reads 0 (R22), the others their content (R23, R30, R32), while busy too (R42). -/
def State.hostValue (s : State) : HostReg → Word
  | .cmd => 0
  | .status => s.statusWord
  | .result => s.result
  | .cfg => s.cfgWord

/-- A host read has no side effect on any register (R21); the value returned is recorded for the host. -/
def State.hostRead (s : State) (r : HostReg) : State := { s with reads := s.reads ++ [s.hostValue r] }

/-- A host write of w to CMD: the accept of R27 while BUSY = 0, carried out as the decoded instruction's first transition, or
as ILLEGAL where R72 rejects w; the overrun of R28 while BUSY = 1 (R22). -/
def State.writeCmd (s : State) (w : Word) : Outcome :=
  if s.busy then .next s.overrun
  else
    match decode w with
    | .ok i => exec i s
    | .error _ => .next (s.accept w)

/-- A host write: only CMD acts; a write to STATUS, RESULT or CFG is ignored (R20, R23, R32, R62). -/
def State.hostWrite (s : State) (r : HostReg) (w : Word) : Outcome :=
  match r with
  | .cmd => s.writeCmd w
  | .status => .next s
  | .result => .next s
  | .cfg => .next s

/-- One turn of the outside world (R9 agent 1, R21, R125). The reset input is an event of one turn: it is not held over turns, and a
CMD write on the very next turn is accepted (DESIGN CHOICE: R125 and R128 do not say whether reset can stay asserted, nor what a
host access then does; log entry 17). -/
def State.hostTurn (s : State) (e : HostEvent) : Outcome :=
  match e with
  | .turn => s.sequencerTurn
  | .read offset width =>
    match hostTarget offset width with
    | some r => .next (s.hostRead r)
    | none => .refused (.hostAccess offset width)
  | .write offset width w =>
    match hostTarget offset width with
    | some r => s.hostWrite r w
    | none => .refused (.hostAccess offset width)
  | .reset => .next s.resetInput

end Sys2Proof.Machine
end

