-- ==== Sys2Proof/Machine/Step.lean ====
section
/-! DEFINITION. The step of the whole machine: one turn. The field `host` of the state says whether the host or the sequencer
moves (R9); with nothing more from the host the sequencer moves. -/

namespace Sys2Proof.Machine

/-- One turn: the host's next event, taken off the list, or the sequencer's turn. -/
def step (s : State) : Host.Outcome State Fault Refusal :=
  match s.host with
  | [] => s.sequencerTurn
  | e :: rest => { s with host := rest }.hostTurn e

/-- The state in which the next step is the host's 32-bit write of the word w (numbered as the opcode table numbers it) to CMD,
with the VSC ready to accept it (log entry 2). -/
def State.withFetchWord (s : State) (nbits w : Nat) : State :=
  { s with
    host := .write 0x0 4 (BitVec.ofNat 32 (w % 2 ^ nbits)) :: s.host
    busy := false
    seq := .idle }

end Sys2Proof.Machine
end

