-- ==== Sys2Proof/Machine/HostDuty.lean ====
section
/-! DEFINITION. The host's side of the spec (R9 agent 1): the command syntax and its assembler (R76, R77, R78), the host
statements of the spec's programs (R76), the presence poll (R113) and the boot order (R128). These are host duties, in scope by
R6: nothing in `step` depends on them, and the VSC enforces none of them (R112, R128, R131). -/

namespace Sys2Proof.Machine

/-- The Integration Time names of the field syntax (R78, R34). -/
inductive IntegrationTime where
  | ms40 | ms80 | ms160 | ms320 | ms640 | ms1280
  deriving DecidableEq, Repr

/-- IT = 0..5 for 40..1280 ms (R34, R78). -/
def IntegrationTime.code : IntegrationTime → Nat
  | .ms40 => 0
  | .ms80 => 1
  | .ms160 => 2
  | .ms320 => 3
  | .ms640 => 4
  | .ms1280 => 5

/-- The duration of an Integration Time in milliseconds: informative, for the host's waits alone (R34, R128, R131). -/
def IntegrationTime.milliseconds : IntegrationTime → Nat
  | .ms40 => 40
  | .ms80 => 80
  | .ms160 => 160
  | .ms320 => 320
  | .ms640 => 640
  | .ms1280 => 1280

/-- The four fields of the field syntax; an omitted field is 0 (R78). -/
structure CfgFields where
  it : IntegrationTime := .ms40
  trig : Bool := false
  force : Bool := false
  sd : Bool := false
  deriving DecidableEq, Repr

/-- imm8 = (IT << 4) | (trig << 2) | (force << 1) | sd (R78). -/
def CfgFields.byte (f : CfgFields) : Byte :=
  (BitVec.ofNat 8 f.it.code <<< 4) ||| ((flag f.trig).setWidth 8 <<< 2) ||| ((flag f.force).setWidth 8 <<< 1) |||
    (flag f.sd).setWidth 8

/-- A line of the host command syntax (R76), the pseudo-commands (R77) and the field syntax (R78) among them. -/
inductive HostCmd where
  | chkp
  | setcfg (imm : Byte)
  | setcfgFields (f : CfgFields)
  | rdch (imm : Byte)
  | cct
  | lux
  | trig
  | rdr | rdg | rdb | rdw
  /-- `.word imm32`, written to CMD unchecked. -/
  | word (imm : Word)
  deriving DecidableEq, Repr

/-- The instruction a line names; none for `.word` (R76, R77, R78). -/
def HostCmd.instr : HostCmd → Option Instr
  | .chkp => some .chkp
  | .setcfg imm => some (.setcfg imm)
  | .setcfgFields f => some (.setcfg f.byte)
  | .rdch imm => some (.rdch imm)
  | .cct => some .cct
  | .lux => some .lux
  | .trig => some .trig
  | .rdr => some (.rdch Config.cmdRed)
  | .rdg => some (.rdch Config.cmdGreen)
  | .rdb => some (.rdch Config.cmdBlue)
  | .rdw => some (.rdch Config.cmdWhite)
  | .word _ => none

/-- The word of a line; none where the assembler refuses it: an RDCH code that is no channel's (R76). -/
def HostCmd.assemble (c : HostCmd) : Option Word :=
  match c with
  | .word imm => some imm
  | _ =>
    match c.instr with
    | some i => if i.wellFormed then some (encode i) else none
    | none => none

/-- Expressions over host variables, numerals and the names CODE and RESULT, the last values read (R76). The rule names no operator
and no width: the model has addition, the one operator that the programs of 95_test_vectors.md use, and natural numbers without a
bound (DESIGN CHOICE both, log entry 7). -/
inductive HostExpr where
  | num (n : Nat)
  | var (x : String)
  | code
  | result
  | add (a b : HostExpr)
  deriving DecidableEq, Repr

/-- The four relations of the host statements (R76). -/
inductive HostRel where
  | eq | ne | lt | ge
  deriving DecidableEq, Repr

/-- The host statements of R76. -/
inductive HostStmt where
  | issue (c : HostCmd)
  | post (c : HostCmd)
  | poll
  /-- `if a rel b goto l`; a comparison with a code name compares with its number. -/
  | ifGoto (a : HostExpr) (r : HostRel) (b : HostExpr) (l : String)
  | wait (ms : Nat)
  | readResult (x : String)
  | set (x : String) (e : HostExpr)
  | goto (l : String)
  | halt
  | label (l : String)
  deriving DecidableEq, Repr

/-- A host that runs a program: its position, whether the command of an `issue` is written and now polled, its variables, the
last CODE and RESULT read, and the time it has waited in all. R76 gives the names CODE and RESULT no value before the host has
read either: here both are then 0, so CODE == OK holds before any poll (DESIGN CHOICE, log entry 7). -/
structure HostProc where
  pos : Nat := 0
  polling : Bool := false
  vars : List (String × Nat) := []
  code : Nat := 0
  result : Nat := 0
  waitedMs : Nat := 0
  halted : Bool := false
  deriving DecidableEq, Repr

/-- A host variable: 0 before it is set (DESIGN CHOICE, log entry 7). -/
def HostProc.get (h : HostProc) (x : String) : Nat :=
  match h.vars.find? (fun e => e.1 == x) with
  | some e => e.2
  | none => 0

/-- Set a host variable. -/
def HostProc.put (h : HostProc) (x : String) (n : Nat) : HostProc :=
  { h with vars := (x, n) :: h.vars.filter (fun e => e.1 != x) }

/-- The value of an expression. -/
def HostProc.eval (h : HostProc) : HostExpr → Nat
  | .num n => n
  | .var x => h.get x
  | .code => h.code
  | .result => h.result
  | .add a b => h.eval a + h.eval b

/-- Whether a relation holds. -/
def HostRel.holds : HostRel → Nat → Nat → Bool
  | .eq, a, b => a == b
  | .ne, a, b => a != b
  | .lt, a, b => Nat.blt a b
  | .ge, a, b => Nat.ble b a

/-- The position of a label: the first place that writes it, where a program writes it twice, and the program's end, where none
does (DESIGN CHOICE both: R76 speaks of neither; log entry 7). -/
def labelAt (prog : List HostStmt) (l : String) : Nat := prog.findIdx (fun st => st == .label l)

/-- Go to the next statement. -/
def HostProc.next (h : HostProc) : HostProc := { h with pos := h.pos + 1, polling := false }

/-- One read of STATUS in a poll: while BUSY the host stays, and then it has the CODE of its command (R42, R130). -/
def HostProc.pollTurn (h : HostProc) (s : State) : HostProc × State :=
  if s.statusWord.getLsbD 0 then (h, s.hostRead .status)
  else ({ h with code := (s.statusWord.extractLsb' 4 4).toNat }.next, s.hostRead .status)

/-- What a host makes of a step of the VSC that it caused. -/
def HostProc.after (h : HostProc) (o : Outcome) : Host.Outcome (HostProc × State) Fault Refusal :=
  match o with
  | .next t => .next (h, t)
  | .fault f => .fault f
  | .refused r => .refused r

/-- One turn of a host that runs a program (R76): at most one access. A line the assembler refuses halts the host (log entry 7). -/
def HostProc.turn (prog : List HostStmt) (h : HostProc) (s : State) : Host.Outcome (HostProc × State) Fault Refusal :=
  match prog[h.pos]? with
  | none => .next ({ h with halted := true }, s)
  | some (.issue c) =>
    if h.polling then .next (h.pollTurn s)
    else
      match c.assemble with
      | some w => { h with polling := true }.after (s.hostWrite .cmd w)
      | none => .next ({ h with halted := true }, s)
  | some (.post c) =>
    match c.assemble with
    | some w => h.next.after (s.hostWrite .cmd w)
    | none => .next ({ h with halted := true }, s)
  | some .poll => .next (h.pollTurn s)
  | some (.ifGoto a r b l) =>
    .next (if r.holds (h.eval a) (h.eval b) then { h with pos := labelAt prog l } else h.next, s)
  | some (.wait ms) => .next ({ h with waitedMs := h.waitedMs + ms }.next, s)
  | some (.readResult x) =>
    .next (({ h with result := s.result.toNat }.put x s.result.toNat).next, s.hostRead .result)
  | some (.set x e) => .next ((h.put x (h.eval e)).next, s)
  | some (.goto l) => .next ({ h with pos := labelAt prog l }, s)
  | some .halt => .next ({ h with halted := true }, s)
  | some (.label _) => .next (h.next, s)

/-- The host and its VSC together: the list says who moves, `true` for the host (R9). -/
def runHost (prog : List HostStmt) : List Bool → HostProc → State → Host.Outcome (HostProc × State) Fault Refusal
  | [], h, s => .next (h, s)
  | who :: rest, h, s =>
    match (if who && !h.halted then h.turn prog s else h.after s.sequencerTurn) with
    | .next (h', s') => runHost prog rest h' s'
    | .fault f => .fault f
    | .refused r => .refused r

/-- The loop of R113's presence poll as host statements, going to one of two labels at its end; RETRY_MAX = UNBOUNDED leaves
the bound out. -/
def presencePollBlock (p : HostParams) (onPresent onAbsent : String) : List HostStmt :=
  [.set "attempts" (.num 0), .label "poll", .issue .chkp, .ifGoto .code .eq (.num 0) onPresent,
    .set "attempts" (.add (.var "attempts") (.num 1))] ++
  (match p.retryMax with
    | none => []
    | some n => [.ifGoto (.var "attempts") .ge (.num n) onAbsent]) ++
  [.wait p.retryIntervalMs, .goto "poll"]

/-- The presence poll of R113 as a host program that leaves its answer in the variable found. -/
def presencePollProgram (p : HostParams) : List HostStmt :=
  presencePollBlock p "present" "absent" ++
  [.label "present", .set "found" (.num 1), .halt, .label "absent", .set "found" (.num 0), .halt]

/-- The wait of R128 item 4 before a measurement is read: in force mode a TRIG and the settle time, in auto mode one
integration time. -/
def beforeMeasurement (p : HostParams) (cfg : CfgFields) : List HostStmt :=
  if cfg.force then [.issue .trig, .ifGoto .code .ne (.num 0) "fail", .wait p.settleMs]
  else [.wait cfg.it.milliseconds]

/-- The boot order of R128 after reset: the presence poll, the configuration with its CODE checked, the wait, the measurement (log entry 13). -/
def bootProgram (p : HostParams) (cfg : CfgFields) (measure : HostCmd) : List HostStmt :=
  presencePollBlock p "configure" "fail" ++
  [.label "configure", .issue (.setcfgFields cfg), .ifGoto .code .ne (.num 0) "fail"] ++
  beforeMeasurement p cfg ++
  [.issue measure, .ifGoto .code .ne (.num 0) "fail", .readResult "value", .halt, .label "fail", .halt]

/-- n turns of the sequencer. -/
def sequencerTurns : Nat → State → Outcome
  | 0, s => .next s
  | n + 1, s =>
    match s.sequencerTurn with
    | .next t => sequencerTurns n t
    | o => o

/-- The most steps a command takes (R37). -/
def longestCommand : Nat := 19

/-- `issue`: write the word to CMD and let the command run to its end, if the transport answers (R76, R37). -/
def issue (w : Word) (s : State) : Outcome :=
  match s.hostWrite .cmd w with
  | .next t => sequencerTurns longestCommand t
  | o => o

/-- What a presence poll has come to: PRESENT, ABSENT, still polling where the bound on the attempts looked at ends first, or
blocked where the transport does not answer (R136, log entry 12). -/
inductive Presence where
  | present | absent | polling | blocked
  deriving DecidableEq, Repr

/-- The presence poll of R113, of which at most `fuel` attempts are looked at (RETRY_MAX may be UNBOUNDED). It answers what it
came to, the failed attempts, the milliseconds waited, and the VSC after it. -/
def presencePoll (p : HostParams) : Nat → Nat → Nat → State → Presence × Nat × Nat × State
  | 0, attempts, waited, s => (.polling, attempts, waited, s)
  | fuel + 1, attempts, waited, s =>
    match issue (encode .chkp) s with
    | .next t =>
      if t.busy then (.blocked, attempts, waited, t)
      else if t.code = .ok then (.present, attempts, waited, t)
      else if p.retryMax ≠ none ∧ p.retryMax.getD 0 ≤ attempts + 1 then (.absent, attempts + 1, waited, t)
      else presencePoll p fuel (attempts + 1) (waited + p.retryIntervalMs) t
    | .fault _ => (.blocked, attempts, waited, s)
    | .refused _ => (.blocked, attempts, waited, s)

end Sys2Proof.Machine
end

