-- ==== Sys2Proof/Safety.lean ====
section
/-! DEFINITION. What counts as a sound state and a disciplined bus, in the terms the statements use: runs, the invariants of
R24, R25, R33, R36, R38, R41 and R111, and the transaction discipline of R82. -/

namespace Sys2Proof.Machine

/-- k steps, stopping at the first fault or refusal. -/
def run : Nat → State → Outcome
  | 0, s => .next s
  | k + 1, s =>
    match step s with
    | .next t => run k t
    | .fault f => .fault f
    | .refused r => .refused r

/-- BUSY is 1 exactly while the sequencer is not IDLE (R24, R36). -/
def State.BusyMatchesSeq (s : State) : Prop := s.busy = true ↔ s.seq ≠ .idle

/-- SEQ names an entry of a step list (R36, R80). -/
def Sequenced : Seq → Prop
  | .idle => True
  | .run c i => i < (stepsOf c).length
  | .abort _ => True

/-- Whether a transaction is open after an entry of a step list, given whether one was before it (R79). -/
def openAfter (isOpen : Bool) : StepKind → Bool
  | .start => true
  | .wr _ => isOpen
  | .rs => isOpen
  | .rda => isOpen
  | .rdn => isOpen
  | .stop => false
  | .stopTo _ => false
  | .fin => isOpen

/-- Whether the VSC owes the bus a stop at a position of SEQ (R41, R82). -/
def owesStop : Seq → Bool
  | .idle => false
  | .run c i => ((stepsOf c).take i).foldl openAfter false
  | .abort j => j = 0

/-- BUS_OPEN is 1 exactly while the VSC owes the bus a stop (R41, R111). -/
def State.BusOpenMatchesSeq (s : State) : Prop := s.busOpen = owesStop s.seq

/-- The latches hold the command that SEQ runs, and V the value that a SETCFG or TRIG writes (R27, R38). -/
def State.LatchesMatchSeq (s : State) : Prop :=
  match s.seq with
  | .idle => True
  | .run c _ =>
    classify s.latchedWord = c ∧ (c = .setcfg → s.v = s.arg) ∧ (c = .trig → s.v = triggered s.cfgCache)
  | .abort _ => classify s.latchedWord ≠ .illegal

/-- DONE is 0 while a command is in flight; where no command has finished or is in flight the host sees the reset values
(R25, R43). -/
def State.DoneMatchesBusy (s : State) : Prop :=
  (s.busy = true → s.done = false) ∧
  (s.busy = false → s.done = false →
    s.ovr = false ∧ s.code = .ok ∧ s.result = 0 ∧ s.cfgCache = Config.cfgReset)

/-- The control invariant of the VSC. -/
structure State.Inv (s : State) : Prop where
  busyMatchesSeq : s.BusyMatchesSeq
  sequenced : Sequenced s.seq
  busOpenMatchesSeq : s.BusOpenMatchesSeq
  latchesMatchSeq : s.LatchesMatchSeq
  doneMatchesBusy : s.DoneMatchesBusy

/-- RESULT beside the CODE of a failure: the sentinel for UNMAPPED_GAIN, 0 for every other (R31, R106). -/
def State.ResultMatchesCode (s : State) : Prop :=
  (s.code = .unmappedGain → s.result = Config.sentinel) ∧
  (s.code ≠ .ok → s.code ≠ .unmappedGain → s.result = 0)

/-- The state of the bus after a primitive, given whether a transaction is open: none where R82 is broken (a start in an open
transaction, or another primitive outside one). -/
def busAfter (isOpen : Bool) : BusEvent → Option Bool
  | .start _ _ _ => if isOpen then none else some true
  | .restart _ _ _ => if isOpen then some true else none
  | .write _ _ => if isOpen then some true else none
  | .read _ _ => if isOpen then some true else none
  | .stop => if isOpen then some false else none

/-- Whether a trace leaves a transaction open; none where it breaks R82. -/
def traceOpen : Bool → List BusEvent → Option Bool
  | isOpen, [] => some isOpen
  | isOpen, e :: rest =>
    match busAfter isOpen e with
    | none => none
    | some o => traceOpen o rest

/-- The transaction discipline of R82 for the command accepted last: its trace is well bracketed and leaves a transaction open
exactly while BUS_OPEN is 1. After a reset in mid-command it may not hold (R126). -/
def State.Disciplined (s : State) : Prop :=
  s.busy = true ∨ s.done = true → traceOpen false s.trace = some s.busOpen

/-- What the host can see and what the next command depends on: the registers a failed command may not leave partial (R30,
R33, R114). -/
structure Visible where
  busy : Bool
  done : Bool
  ovr : Bool
  code : Code
  result : Word
  cfgCache : Byte
  seq : Seq
  busOpen : Bool
  deriving DecidableEq, Repr

/-- The visible part of a state. -/
def State.visible (s : State) : Visible :=
  { busy := s.busy
    done := s.done
    ovr := s.ovr
    code := s.code
    result := s.result
    cfgCache := s.cfgCache
    seq := s.seq
    busOpen := s.busOpen }

/-- The VSC is idle and ready for a command (R27, R36). -/
def State.Ready (s : State) : Prop := s.busy = false ∧ s.seq = .idle

/-- k attempts of one command, each ended by BUS_ERROR, lead from s to t (R114). -/
def failedAttempts (w : Word) : Nat → State → State → Prop
  | 0, s, t => s = t
  | k + 1, s, t => ∃ m, issue w s = .next m ∧ m.busy = false ∧ m.code = .busError ∧ failedAttempts w k m t

/-- The registers of the VSC that FINISH alone writes (R30, R33, R42). -/
def State.SameResults (s t : State) : Prop :=
  t.code = s.code ∧ t.result = s.result ∧ t.cfgCache = s.cfgCache

end Sys2Proof.Machine
end

