-- ==== Sys2Proof/Certificates/Slice0/Obligations.lean ====
section
/-! DEFINITION. The statements for the provers. Each docstring names the rule of `spec/` it formalises. -/

open Sys2Proof Sys2Proof.Machine

/-! ## Decoding and encoding -/

/-- R74, R71: every well-formed command is read back from its own word. -/
def Obligations.DecodeEncodeRoundTrip : Prop :=
  ∀ i : Instr, i.wellFormed = true → decode (encode i) = .ok i

/-- R71, R72: a word the decoder accepts is the word of a well-formed instruction, so no bit of it is ignored. -/
def Obligations.DecodedWordIsItsEncoding : Prop :=
  ∀ (w : Word) (i : Instr), decode w = .ok i → i.wellFormed = true ∧ encode i = w

/-- R71: a word selects a mnemonic exactly where (w & mask) = match, with the match and mask of the row. -/
def Obligations.MaskAndMatchSelectMnemonic : Prop :=
  ∀ w : Word,
    (decode w = .ok .chkp ↔ w &&& 0xFFFFFFFF#32 = 0x00000001#32) ∧
    ((∃ cfg, decode w = .ok (.setcfg cfg)) ↔ w &&& 0xFFFF00FF#32 = 0x00000002#32) ∧
    ((∃ code, decode w = .ok (.rdch code)) ↔ w &&& 0xFFFFFCFF#32 = 0x00000803#32) ∧
    (decode w = .ok .cct ↔ w &&& 0xFFFFFFFF#32 = 0x00000004#32) ∧
    (decode w = .ok .lux ↔ w &&& 0xFFFFFFFF#32 = 0x00000005#32) ∧
    (decode w = .ok .trig ↔ w &&& 0xFFFFFFFF#32 = 0x00000006#32)

/-- R71, R77: words written out from the format C bit layout decode to the commands they stand for. -/
def Obligations.WrittenWordsDecode : Prop :=
  decode 0b00000000000000000000000000000001#32 = .ok .chkp ∧
  decode 0b00000000000000000100010000000010#32 = .ok (.setcfg 0x44) ∧
  decode 0b00000000000000000000101100000011#32 = .ok (.rdch 0x0B) ∧
  decode 0b00000000000000000000000000000100#32 = .ok .cct ∧
  decode 0b00000000000000000000000000000101#32 = .ok .lux ∧
  decode 0b00000000000000000000000000000110#32 = .ok .trig

/-- R72: the order of the decode checks, each with the reason of the first check that fails. -/
def Obligations.DecodeChecksInOrder : Prop :=
  ∀ w : Word,
    (w.extractLsb' 16 16 ≠ 0 → decode w = .error .highHalfNotZero) ∧
    (w.extractLsb' 16 16 = 0 → w.extractLsb' 4 4 ≠ 0 → decode w = .error .reservedNotZero) ∧
    (w.extractLsb' 16 16 = 0 → w.extractLsb' 4 4 = 0 →
      (w.extractLsb' 0 4 = 0 ∨ 7 ≤ (w.extractLsb' 0 4).toNat) →
      decode w = .error (.reservedOpcode (w.extractLsb' 0 4))) ∧
    (w.extractLsb' 16 16 = 0 → w.extractLsb' 4 4 = 0 →
      (w.extractLsb' 0 4 = 1 ∨ w.extractLsb' 0 4 = 4 ∨ w.extractLsb' 0 4 = 5 ∨ w.extractLsb' 0 4 = 6) →
      w.extractLsb' 8 8 ≠ 0 → decode w = .error (.strayArgument (w.extractLsb' 8 8))) ∧
    (w.extractLsb' 16 16 = 0 → w.extractLsb' 4 4 = 0 → w.extractLsb' 0 4 = 3 →
      ((w.extractLsb' 8 8).toNat < 8 ∨ 11 < (w.extractLsb' 8 8).toNat) →
      decode w = .error (.noSuchChannel (w.extractLsb' 8 8)))

/-- R76, R77, R78: the assembler's words, its refusal of an RDCH code that is no channel's, the pseudo-commands, and the field
syntax, which cannot write an Integration Time of 6 or 7. -/
def Obligations.AssemblerWords : Prop :=
  HostCmd.assemble .chkp = some 0x00000001 ∧
  (∀ imm : Byte, HostCmd.assemble (.setcfg imm) = some ((imm.setWidth 32 <<< 8) ||| 0x02)) ∧
  (∀ imm : Byte, 8 ≤ imm.toNat → imm.toNat ≤ 11 →
    HostCmd.assemble (.rdch imm) = some ((imm.setWidth 32 <<< 8) ||| 0x03)) ∧
  (∀ imm : Byte, (imm.toNat < 8 ∨ 11 < imm.toNat) → HostCmd.assemble (.rdch imm) = none) ∧
  HostCmd.assemble .cct = some 0x00000004 ∧
  HostCmd.assemble .lux = some 0x00000005 ∧
  HostCmd.assemble .trig = some 0x00000006 ∧
  (∀ imm : Word, HostCmd.assemble (.word imm) = some imm) ∧
  HostCmd.assemble .rdr = some 0x00000803 ∧
  HostCmd.assemble .rdg = some 0x00000903 ∧
  HostCmd.assemble .rdb = some 0x00000A03 ∧
  HostCmd.assemble .rdw = some 0x00000B03 ∧
  (∀ f : CfgFields, HostCmd.assemble (.setcfgFields f) = HostCmd.assemble (.setcfg f.byte) ∧
    f.byte.toNat = f.it.code * 16 + f.trig.toNat * 4 + f.force.toNat * 2 + f.sd.toNat ∧
    itCode f.byte = f.it.code ∧ f.it.code ≤ 5)

/-! ## The step, the accept and the host interface -/

/-- A step runs the decoded instruction. The host's 32-bit write to CMD of a word that decodes to i, while the VSC is not busy,
runs `exec i`, and so does every turn of the sequencer while i is in flight; what the step adds is that the host's event is
taken off the list (R22, R27, R36, R80). -/
def Obligations.StepRunsDecodedCommand : Prop :=
  (∀ (s : State) (w : Word) (i : Instr) (rest : List HostEvent),
    s.host = .write 0x0 4 w :: rest → s.busy = false → decode w = .ok i →
    step s = exec i { s with host := rest }) ∧
  (∀ (s : State) (i : Instr), s.inFlight = some i →
    (s.host = [] → step s = exec i s) ∧
    (∀ rest, s.host = .turn :: rest → step s = exec i { s with host := rest }))

/-- R27, with the decode of R72: what the accept of any word writes. STATUS.CODE and RESULT keep their values. That a word which
fails the decode check writes the latches and V as a legal one does is the model's reading of R27's pseudocode (DEDUCED, log
entry 9). The statement says nothing of the trace, the model's own field. -/
def Obligations.AcceptLatchesTheWord : Prop :=
  ∀ (s : State) (w : Word) (rest : List HostEvent),
    s.host = .write 0x0 4 w :: rest → s.busy = false → s.seq = .idle →
    ∃ newTrace, step s = .next
      { s with
        host := rest
        op := w.extractLsb' 0 4
        arg := w.extractLsb' 8 8
        rsv := w.extractLsb' 4 4
        hi := w.extractLsb' 16 16
        busy := true
        done := false
        ovr := false
        v :=
          if w.extractLsb' 0 4 = 6 then s.cfgCache ||| 0x04
          else if w.extractLsb' 0 4 = 2 then w.extractLsb' 8 8 else s.v
        seq := .run (match decode w with | .ok i => cmdOf i | .error _ => .illegal) 0
        trace := newTrace }

/-- R27, R70: the meaning of each of the six commands, at IDLE, accepts it, with the fields of its own encoding. That the trace
begins anew is the model's choice (log entry 3). -/
def Obligations.CommandIsAcceptedAtIdle : Prop :=
  ∀ (i : Instr) (s : State), i.wellFormed = true → s.seq = .idle →
    exec i s = .next
      { s with
        op := i.opcode
        arg := i.argument
        rsv := 0
        hi := 0
        busy := true
        done := false
        ovr := false
        v := (match i with | .trig => s.cfgCache ||| 0x04 | .setcfg cfg => cfg | _ => s.v)
        seq := .run (cmdOf i) 0
        trace := [] }

/-- R28: a CMD write while BUSY is dropped, whatever its word, and changes nothing except OVR. -/
def Obligations.BusyWriteOnlySetsOverrun : Prop :=
  ∀ (s : State) (w : Word) (rest : List HostEvent),
    s.host = .write 0x0 4 w :: rest → s.busy = true →
    step s = .next { s with host := rest, ovr := true }

/-- R20, R21, R22, R32, R42: the values of the four host reads, busy or not; a read changes no register (the value returned is
recorded in the model's own field, log entry 3). -/
def Obligations.HostReadsReturnTheRegisters : Prop :=
  ∀ (s : State) (rest : List HostEvent),
    (s.host = .read 0x0 4 :: rest → step s = .next { s with host := rest, reads := s.reads ++ [0x00000000#32] }) ∧
    (s.host = .read 0x4 4 :: rest → step s = .next { s with host := rest, reads := s.reads ++ [s.statusWord] }) ∧
    (s.host = .read 0x8 4 :: rest → step s = .next { s with host := rest, reads := s.reads ++ [s.result] }) ∧
    (s.host = .read 0xC 4 :: rest → step s = .next { s with host := rest, reads := s.reads ++ [s.cfgCache.setWidth 32] })

/-- R20, R23, R32: a host write to STATUS, RESULT or CFG is ignored. -/
def Obligations.WritesToReadOnlyRegistersIgnored : Prop :=
  ∀ (s : State) (offset : Nat) (w : Word) (rest : List HostEvent),
    s.host = .write offset 4 w :: rest → offset = 0x4 ∨ offset = 0x8 ∨ offset = 0xC →
    step s = .next { s with host := rest }

/-- R21: a host access of another width, at an unaligned offset or above 0xC is refused, read or write. -/
def Obligations.OtherHostAccessesAreRefused : Prop :=
  ∀ (s : State) (offset width : Nat) (w : Word) (rest : List HostEvent),
    (width ≠ 4 ∨ offset % 4 ≠ 0 ∨ 0xC < offset) →
    (s.host = .read offset width :: rest → step s = .refused (.hostAccess offset width)) ∧
    (s.host = .write offset width w :: rest → step s = .refused (.hostAccess offset width))

/-- R23, R29: the bits of STATUS and the numbers of CODE. -/
def Obligations.StatusWordLayout : Prop :=
  ∀ s : State,
    s.statusWord.getLsbD 0 = s.busy ∧ s.statusWord.getLsbD 1 = s.done ∧ s.statusWord.getLsbD 2 = s.ovr ∧
    s.statusWord.getLsbD 3 = false ∧ s.statusWord.extractLsb' 8 24 = 0 ∧
    (s.statusWord.extractLsb' 4 4).toNat =
      (match s.code with
        | .ok => 0 | .busError => 1 | .divFault => 2 | .unmappedGain => 3 | .cctDomain => 4 | .illegalCmd => 5)

/-! ## Reset -/

/-- R43: the state after reset, where the rule gives a value. -/
def Obligations.ResetValues : Prop :=
  State.reset.hostValue .cmd = 0 ∧ State.reset.busy = false ∧ State.reset.done = false ∧ State.reset.ovr = false ∧
  State.reset.code = .ok ∧ State.reset.statusWord = 0 ∧ State.reset.result = 0 ∧ State.reset.cfgCache = 0x00 ∧
  State.reset.hostValue .cfg = 0 ∧ State.reset.seq = .idle ∧ State.reset.busOpen = false

/-- R125, R126, R127: the reset input, whatever is in flight, leaves the host with the reset values, issues no bus primitive and
takes nothing from the transport. -/
def Obligations.ResetInputAbandonsTheCommand : Prop :=
  ∀ (s : State) (rest : List HostEvent), s.host = .reset :: rest →
    ∃ t, step s = .next t ∧ t.visible = State.reset.visible ∧
      t.trace = s.trace ∧ t.outcomes = s.outcomes ∧ t.bytes = s.bytes ∧ t.reads = s.reads ∧ t.host = rest

/-- R125, R127: after reset the VSC waits in IDLE: with no host access it changes nothing, for any number of steps. -/
def Obligations.IdleWaitsForTheHost : Prop :=
  ∀ (n : Nat) (s : State), s.seq = .idle → s.host = [] → run n s = .next s

/-! ## The sequencer -/

/-- R80: the step lists, spelt out. -/
def Obligations.StepListsOfTheCommands : Prop :=
  stepsOf .chkp = [.start, .stop, .fin] ∧
  stepsOf .setcfg = [.start, .wr (.const 0x00), .wr .v, .stop, .fin] ∧
  stepsOf .trig = [.start, .wr (.const 0x00), .wr .v, .stop, .fin] ∧
  stepsOf .rdch = [.start, .wr .arg, .rs, .rda, .rdn, .stop, .fin] ∧
  stepsOf .lux = [.start, .wr (.const 0x09), .rs, .rda, .rdn, .stopTo .green, .fin] ∧
  stepsOf .cct =
    [.start, .wr (.const 0x08), .rs, .rda, .rdn, .stopTo .red,
      .start, .wr (.const 0x09), .rs, .rda, .rdn, .stopTo .green,
      .start, .wr (.const 0x0A), .rs, .rda, .rdn, .stopTo .blue, .fin] ∧
  stepsOf .illegal = [.fin]

/-- R79: START, WR and RS, for each of the six commands in flight: the request, its answer, BUS_OPEN, and the next position,
which is ABORT(0) on FAIL. Nothing else changes. -/
def Obligations.FailableStepsFollowTheAnswer : Prop :=
  ∀ (s : State) (ins : Instr) (i : Nat) (o : BusOutcome) (rest : List BusOutcome),
    s.inFlight = some ins → s.seq = .run (cmdOf ins) i → s.outcomes = o :: rest →
    ((stepsOf (cmdOf ins))[i]? = some .start →
      exec ins s = .next
        { s with
          outcomes := rest, trace := s.trace ++ [.start 0x10 .write o], busOpen := true
          seq := match o with | .ok => .run (cmdOf ins) (i + 1) | .fail => .abort 0 }) ∧
    (∀ x, (stepsOf (cmdOf ins))[i]? = some (.wr x) →
      exec ins s = .next
        { s with
          outcomes := rest
          trace := s.trace ++ [.write (match x with | .const b => b | .v => s.v | .arg => s.arg) o]
          seq := match o with | .ok => .run (cmdOf ins) (i + 1) | .fail => .abort 0 }) ∧
    ((stepsOf (cmdOf ins))[i]? = some .rs →
      exec ins s = .next
        { s with
          outcomes := rest, trace := s.trace ++ [.restart 0x10 .read o]
          seq := match o with | .ok => .run (cmdOf ins) (i + 1) | .fail => .abort 0 })

/-- R49, R50, R79: RDA, RDN, STOP and STOP>T, for each command in flight that has one: they never fail. Nothing else changes. -/
def Obligations.ReadAndStopStepsNeverFail : Prop :=
  ∀ (s : State) (ins : Instr) (i : Nat),
    s.inFlight = some ins → s.seq = .run (cmdOf ins) i →
    (∀ b rest, s.bytes = b :: rest → (stepsOf (cmdOf ins))[i]? = some .rda →
      exec ins s = .next
        { s with bytes := rest, trace := s.trace ++ [.read .ack b], b0 := b, seq := .run (cmdOf ins) (i + 1) }) ∧
    (∀ b rest, s.bytes = b :: rest → (stepsOf (cmdOf ins))[i]? = some .rdn →
      exec ins s = .next
        { s with bytes := rest, trace := s.trace ++ [.read .nack b], b1 := b, seq := .run (cmdOf ins) (i + 1) }) ∧
    ((stepsOf (cmdOf ins))[i]? = some .stop →
      exec ins s = .next
        { s with trace := s.trace ++ [.stop], busOpen := false, seq := .run (cmdOf ins) (i + 1) }) ∧
    (∀ T, (stepsOf (cmdOf ins))[i]? = some (.stopTo T) →
      exec ins s = .next
        { s with
          trace := s.trace ++ [.stop], busOpen := false
          tmpR := if T = .red then s.b1 ++ s.b0 else s.tmpR
          tmpG := if T = .green then s.b1 ++ s.b0 else s.tmpG
          tmpB := if T = .blue then s.b1 ++ s.b0 else s.tmpB
          seq := .run (cmdOf ins) (i + 1) })

/-- R51, R79: the port's bit of an outcome, 0 for OK and 1 for FAIL, decides where each command in flight goes from a START, WR or
RS: on by one entry, or to ABORT(0). -/
def Obligations.PortBitDecidesTheNextPosition : Prop :=
  BusOutcome.ok.bit = 0#1 ∧ BusOutcome.fail.bit = 1#1 ∧
  (∀ o : BusOutcome, BusOutcome.ofBit o.bit = o) ∧
  ∀ (s : State) (ins : Instr) (i : Nat) (b : BitVec 1) (rest : List BusOutcome),
    s.inFlight = some ins → s.seq = .run (cmdOf ins) i → s.outcomes = BusOutcome.ofBit b :: rest →
    ((stepsOf (cmdOf ins))[i]? = some .start ∨ (stepsOf (cmdOf ins))[i]? = some .rs ∨
      ∃ x, (stepsOf (cmdOf ins))[i]? = some (.wr x)) →
    ∃ t, exec ins s = .next t ∧ t.outcomes = rest ∧
      t.seq = if b = 0#1 then .run (cmdOf ins) (i + 1) else .abort 0

/-- R52, R136: a bus step whose answer the transport has not given waits, for as long as it is not given. -/
def Obligations.SilentTransportHoldsTheSequencer : Prop :=
  ∀ (n : Nat) (s : State) (c : Cmd) (i : Nat) (k : StepKind),
    s.host = [] → s.seq = .run c i → (stepsOf c)[i]? = some k →
    ((k = .start ∨ k = .rs ∨ ∃ x, k = .wr x) → s.outcomes = [] → run n s = .next s) ∧
    ((k = .rda ∨ k = .rdn) → s.bytes = [] → run n s = .next s)

/-- R109, R110: the abort path: the stop, then FINISH with BUS_ERROR and RESULT 0, the cache untouched. -/
def Obligations.AbortPathStopsThenReportsBusError : Prop :=
  ∀ s : State, s.host = [] →
    (s.seq = .abort 0 →
      step s = .next { s with trace := s.trace ++ [.stop], busOpen := false, seq := .abort 1 }) ∧
    (s.seq = .abort 1 →
      step s = .next { s with code := .busError, result := 0, busy := false, done := true, seq := .idle })

/-! ## FINISH, instruction by instruction -/

/-- R81, R83: CHKP's FINISH. -/
def Obligations.ChkpFinishes : Prop :=
  ∀ s : State, s.seq = .run .chkp 2 →
    exec .chkp s = .next { s with code := .ok, result := 0, busy := false, done := true, seq := .idle }

/-- R33, R81, R85: SETCFG's FINISH loads the cache with V. -/
def Obligations.SetcfgFinishes : Prop :=
  ∀ (s : State) (cfg : Byte), s.seq = .run .setcfg 4 →
    exec (.setcfg cfg) s = .next
      { s with cfgCache := s.v, code := .ok, result := 0, busy := false, done := true, seq := .idle }

/-- R58, R81, R87: RDCH's FINISH reports the little-endian count (B1 << 8) | B0, zero-extended. -/
def Obligations.RdchFinishes : Prop :=
  ∀ (s : State) (code : Byte), s.seq = .run .rdch 6 →
    exec (.rdch code) s = .next
      { s with
        code := .ok, result := ((s.b1.setWidth 32) <<< 8) ||| s.b0.setWidth 32
        busy := false, done := true, seq := .idle }

/-- R33, R81, R89: TRIG's FINISH loads the cache with V. -/
def Obligations.TrigFinishes : Prop :=
  ∀ s : State, s.seq = .run .trig 4 →
    exec .trig s = .next
      { s with cfgCache := s.v, code := .ok, result := 0, busy := false, done := true, seq := .idle }

/-- R93, R94: LUX's FINISH: the exact product of the Green count and 50336 >> k, k = CFG_CACHE[6:4], which loses nothing in 32
bits; for k = 6 and k = 7 the sentinel with UNMAPPED_GAIN. -/
def Obligations.LuxFinishes : Prop :=
  ∀ s : State, s.seq = .run .lux 6 →
    ((s.cfgCache.extractLsb' 4 3).toNat ≤ 5 →
      exec .lux s = .next
        { s with
          code := .ok, result := BitVec.ofNat 32 (s.tmpG.toNat * (50336 / 2 ^ (s.cfgCache.extractLsb' 4 3).toNat))
          busy := false, done := true, seq := .idle } ∧
      s.tmpG.toNat * (50336 / 2 ^ (s.cfgCache.extractLsb' 4 3).toNat) < 0xFFFFFFFF) ∧
    (5 < (s.cfgCache.extractLsb' 4 3).toNat →
      exec .lux s = .next
        { s with code := .unmappedGain, result := 0xFFFFFFFF, busy := false, done := true, seq := .idle })

/-- R96, R97, R98, R99: CCT's FINISH: DIV_FAULT for Green 0, then CCT_DOMAIN for p <= 0, and else the greatest n that meets the
integer criterion of R97, which exists, saturated at 32 bits. -/
def Obligations.CctFinishes : Prop :=
  ∀ (s : State) (p : Int), s.seq = .run .cct 18 →
    p = 2 * ((s.tmpR.toNat : Int) - (s.tmpB.toNat : Int)) + (s.tmpG.toNat : Int) →
    (s.tmpG = 0 →
      exec .cct s = .next { s with code := .divFault, result := 0, busy := false, done := true, seq := .idle }) ∧
    (s.tmpG ≠ 0 → p ≤ 0 →
      exec .cct s = .next { s with code := .cctDomain, result := 0, busy := false, done := true, seq := .idle }) ∧
    (s.tmpG ≠ 0 → 0 < p →
      ∃ n : Nat,
        (10 * n) ^ 2000 * p.toNat ^ 2491 ≤ 42786 ^ 2000 * (2 * s.tmpG.toNat) ^ 2491 ∧
        (∀ m : Nat, (10 * m) ^ 2000 * p.toNat ^ 2491 ≤ 42786 ^ 2000 * (2 * s.tmpG.toNat) ^ 2491 → m ≤ n) ∧
        exec .cct s = .next
          { s with
            code := .ok, result := BitVec.ofNat 32 (min n 0xFFFFFFFF)
            busy := false, done := true, seq := .idle })

/-- R98: the CCT saturates exactly for p = 1 with G >= 32934. -/
def Obligations.CctSaturatesOnlyAtPOne : Prop :=
  ∀ p g : Nat, 0 < p → 0 < g → g ≤ 65535 →
    (0xFFFFFFFF < cctExact p (2 * g) ↔ p = 1 ∧ 32934 ≤ g)

/-- R96, R100, a corner case: the code and the result depend only on the ratio p/q, p = 2(R - B) + G and q = 2G, of which two are
equal where the cross products are; so scaling the three counts by one factor changes nothing, a Green count of 0 included. -/
def Obligations.CctDependsOnlyOnRatio : Prop :=
  ∀ r g b r' g' b' : Half,
    (∀ p p' : Int, g ≠ 0 → g' ≠ 0 →
      p = 2 * ((r.toNat : Int) - (b.toNat : Int)) + (g.toNat : Int) →
      p' = 2 * ((r'.toNat : Int) - (b'.toNat : Int)) + (g'.toNat : Int) →
      p * (2 * (g'.toNat : Int)) = p' * (2 * (g.toNat : Int)) →
      cctFin r' g' b' = cctFin r g b) ∧
    (∀ k : Nat, 0 < k →
      r'.toNat = k * r.toNat → g'.toNat = k * g.toNat → b'.toNat = k * b.toNat →
      cctFin r' g' b' = cctFin r g b)

/-- R89, R92, a corner case: TRIG's bit does not touch CFG[6:4], so neither the Integration Time code nor any LUX result
changes with it. -/
def Obligations.TriggerBitKeepsTheGain : Prop :=
  ∀ (g : Half) (cfg : Byte), luxFin g (triggered cfg) = luxFin g cfg ∧ itCode (triggered cfg) = itCode cfg

/-! ## Whole commands: every bus trace and its outcome -/

/-- R72, R108: a word that fails the decode check ends with ILLEGAL_CMD and RESULT 0, no bus primitive and no change of the
cache. That its fields stay in the latches is the model's reading of R27 (DEDUCED, log entry 9). -/
def Obligations.IllegalWordRunsToIllegalCmd : Prop :=
  ∀ (s : State) (w : Word) (e : DecodeError), s.Ready → s.host = [.write 0x0 4 w] → decode w = .error e →
    ∃ t, run 2 s = .next t ∧ t.code = .illegalCmd ∧ t.result = 0 ∧ t.trace = [] ∧ t.cfgCache = s.cfgCache ∧
      t.busy = false ∧ t.done = true ∧ t.ovr = false ∧ t.seq = .idle ∧ t.latchedWord = w ∧
      t.outcomes = s.outcomes ∧ t.bytes = s.bytes ∧ t.busOpen = s.busOpen

/-- R83, R84: the two traces of CHKP. Its outcome depends on the answer to BusStart alone. -/
def Obligations.ChkpTraces : Prop :=
  ∀ (s : State) (o : BusOutcome) (rest : List BusOutcome),
    s.Ready → s.host = [.write 0x0 4 0x00000001] → s.outcomes = o :: rest →
    run 4 s = .next
      { s with
        host := [], outcomes := rest
        op := 1, arg := 0, rsv := 0, hi := 0
        busy := false, done := true, ovr := false
        code := match o with | .ok => .ok | .fail => .busError
        result := 0, seq := .idle, busOpen := false
        trace := [.start 0x10 .write o, .stop] }

/-- R85, R86: the four rows of SETCFG's traces, for any configuration byte. -/
def Obligations.SetcfgTraces : Prop :=
  ∀ (s : State) (cfg : Byte) (rest : List BusOutcome),
    s.Ready → s.host = [.write 0x0 4 (0x0000#16 ++ cfg ++ 0x02#8)] →
    (s.outcomes = .fail :: rest → ∃ t, run 6 s = .next t ∧
      t.trace = [.start 0x10 .write .fail, .stop] ∧
      t.visible = ⟨false, true, false, .busError, 0, s.cfgCache, .idle, false⟩ ∧ t.outcomes = rest) ∧
    (s.outcomes = .ok :: .fail :: rest → ∃ t, run 6 s = .next t ∧
      t.trace = [.start 0x10 .write .ok, .write 0x00 .fail, .stop] ∧
      t.visible = ⟨false, true, false, .busError, 0, s.cfgCache, .idle, false⟩ ∧ t.outcomes = rest) ∧
    (s.outcomes = .ok :: .ok :: .fail :: rest → ∃ t, run 6 s = .next t ∧
      t.trace = [.start 0x10 .write .ok, .write 0x00 .ok, .write cfg .fail, .stop] ∧
      t.visible = ⟨false, true, false, .busError, 0, s.cfgCache, .idle, false⟩ ∧ t.outcomes = rest) ∧
    (s.outcomes = .ok :: .ok :: .ok :: rest → ∃ t, run 6 s = .next t ∧
      t.trace = [.start 0x10 .write .ok, .write 0x00 .ok, .write cfg .ok, .stop] ∧
      t.visible = ⟨false, true, false, .ok, 0, cfg, .idle, false⟩ ∧ t.outcomes = rest)

/-- R89, R90: TRIG's traces are SETCFG's, with the cached byte's Trigger bit set. -/
def Obligations.TrigTraces : Prop :=
  ∀ (s : State) (rest : List BusOutcome),
    s.Ready → s.host = [.write 0x0 4 0x00000006] →
    (s.outcomes = .fail :: rest → ∃ t, run 6 s = .next t ∧
      t.trace = [.start 0x10 .write .fail, .stop] ∧
      t.visible = ⟨false, true, false, .busError, 0, s.cfgCache, .idle, false⟩ ∧ t.outcomes = rest) ∧
    (s.outcomes = .ok :: .fail :: rest → ∃ t, run 6 s = .next t ∧
      t.trace = [.start 0x10 .write .ok, .write 0x00 .fail, .stop] ∧
      t.visible = ⟨false, true, false, .busError, 0, s.cfgCache, .idle, false⟩ ∧ t.outcomes = rest) ∧
    (s.outcomes = .ok :: .ok :: .fail :: rest → ∃ t, run 6 s = .next t ∧
      t.trace = [.start 0x10 .write .ok, .write 0x00 .ok, .write (s.cfgCache ||| 0x04) .fail, .stop] ∧
      t.visible = ⟨false, true, false, .busError, 0, s.cfgCache, .idle, false⟩ ∧ t.outcomes = rest) ∧
    (s.outcomes = .ok :: .ok :: .ok :: rest → ∃ t, run 6 s = .next t ∧
      t.trace = [.start 0x10 .write .ok, .write 0x00 .ok, .write (s.cfgCache ||| 0x04) .ok, .stop] ∧
      t.visible = ⟨false, true, false, .ok, 0, s.cfgCache ||| 0x04, .idle, false⟩ ∧ t.outcomes = rest)

/-- R87, R88: the four rows of RDCH's traces, for each of the four channel codes. -/
def Obligations.RdchTraces : Prop :=
  ∀ (s : State) (code b0 b1 : Byte) (rest : List BusOutcome) (more : List Byte),
    s.Ready → 8 ≤ code.toNat → code.toNat ≤ 11 → s.host = [.write 0x0 4 (0x0000#16 ++ code ++ 0x03#8)] →
    (s.outcomes = .fail :: rest → ∃ t, run 8 s = .next t ∧
      t.trace = [.start 0x10 .write .fail, .stop] ∧
      t.visible = ⟨false, true, false, .busError, 0, s.cfgCache, .idle, false⟩ ∧ t.bytes = s.bytes) ∧
    (s.outcomes = .ok :: .fail :: rest → ∃ t, run 8 s = .next t ∧
      t.trace = [.start 0x10 .write .ok, .write code .fail, .stop] ∧
      t.visible = ⟨false, true, false, .busError, 0, s.cfgCache, .idle, false⟩ ∧ t.bytes = s.bytes) ∧
    (s.outcomes = .ok :: .ok :: .fail :: rest → ∃ t, run 8 s = .next t ∧
      t.trace = [.start 0x10 .write .ok, .write code .ok, .restart 0x10 .read .fail, .stop] ∧
      t.visible = ⟨false, true, false, .busError, 0, s.cfgCache, .idle, false⟩ ∧ t.bytes = s.bytes) ∧
    (s.outcomes = .ok :: .ok :: .ok :: rest → s.bytes = b0 :: b1 :: more → ∃ t, run 8 s = .next t ∧
      t.trace =
        [.start 0x10 .write .ok, .write code .ok, .restart 0x10 .read .ok, .read .ack b0, .read .nack b1, .stop] ∧
      t.visible = ⟨false, true, false, .ok, (b1 ++ b0).setWidth 32, s.cfgCache, .idle, false⟩ ∧ t.bytes = more)

/-- R95, R115: LUX's traces are those of the Green read: every failing row ends with BUS_ERROR and 0 whatever the cache holds,
and the full row with lux_fin of the count. -/
def Obligations.LuxTraces : Prop :=
  ∀ (s : State) (b0 b1 : Byte) (rest : List BusOutcome) (more : List Byte),
    s.Ready → s.host = [.write 0x0 4 0x00000005] →
    (s.outcomes = .fail :: rest → ∃ t, run 8 s = .next t ∧
      t.trace = [.start 0x10 .write .fail, .stop] ∧
      t.visible = ⟨false, true, false, .busError, 0, s.cfgCache, .idle, false⟩) ∧
    (s.outcomes = .ok :: .fail :: rest → ∃ t, run 8 s = .next t ∧
      t.trace = [.start 0x10 .write .ok, .write 0x09 .fail, .stop] ∧
      t.visible = ⟨false, true, false, .busError, 0, s.cfgCache, .idle, false⟩) ∧
    (s.outcomes = .ok :: .ok :: .fail :: rest → ∃ t, run 8 s = .next t ∧
      t.trace = [.start 0x10 .write .ok, .write 0x09 .ok, .restart 0x10 .read .fail, .stop] ∧
      t.visible = ⟨false, true, false, .busError, 0, s.cfgCache, .idle, false⟩) ∧
    (s.outcomes = .ok :: .ok :: .ok :: rest → s.bytes = b0 :: b1 :: more → ∃ t, run 8 s = .next t ∧
      t.trace =
        [.start 0x10 .write .ok, .write 0x09 .ok, .restart 0x10 .read .ok, .read .ack b0, .read .nack b1, .stop] ∧
      t.tmpG = b1 ++ b0 ∧
      t.visible =
        ⟨false, true, false, (luxFin (b1 ++ b0) s.cfgCache).1, (luxFin (b1 ++ b0) s.cfgCache).2, s.cfgCache, .idle, false⟩)

/-- R101, its full row: three reads, codes 0x08, 0x09 and 0x0A in order, eighteen primitives, and cct_fin of the three
counts. -/
def Obligations.CctFullTrace : Prop :=
  ∀ (s : State) (r0 r1 g0 g1 b0 b1 : Byte) (rest : List BusOutcome) (more : List Byte),
    s.Ready → s.host = [.write 0x0 4 0x00000004] →
    s.outcomes = List.replicate 9 .ok ++ rest → s.bytes = [r0, r1, g0, g1, b0, b1] ++ more →
    ∃ t, run 20 s = .next t ∧
      t.trace =
        [.start 0x10 .write .ok, .write 0x08 .ok, .restart 0x10 .read .ok, .read .ack r0, .read .nack r1, .stop,
          .start 0x10 .write .ok, .write 0x09 .ok, .restart 0x10 .read .ok, .read .ack g0, .read .nack g1, .stop,
          .start 0x10 .write .ok, .write 0x0A .ok, .restart 0x10 .read .ok, .read .ack b0, .read .nack b1, .stop] ∧
      t.visible =
        ⟨false, true, false, (cctFin (r1 ++ r0) (g1 ++ g0) (b1 ++ b0)).1, (cctFin (r1 ++ r0) (g1 ++ g0) (b1 ++ b0)).2,
          s.cfgCache, .idle, false⟩ ∧
      t.outcomes = rest ∧ t.bytes = more

/-- R101, its failing rows: where the answer number n (from 0) of nine is the first FAIL, the command ends with BUS_ERROR and 0
after 6 primitives for each read completed and 2, 3 or 4 for the failing one, and no later answer is asked for. -/
def Obligations.CctFailingTraces : Prop :=
  ∀ (s : State) (n : Nat) (rest : List BusOutcome),
    s.Ready → s.host = [.write 0x0 4 0x00000004] → n < 9 → 6 ≤ s.bytes.length →
    s.outcomes = List.replicate n .ok ++ .fail :: rest →
    ∃ t, run 20 s = .next t ∧
      t.trace.length = 6 * (n / 3) + (n % 3 + 2) ∧ t.trace.getLast? = some .stop ∧
      t.visible = ⟨false, true, false, .busError, 0, s.cfgCache, .idle, false⟩ ∧
      t.outcomes = rest ∧ t.bytes = s.bytes.drop (2 * (n / 3))

/-! ## Frames over every step -/

/-- R30, R33, R42: a transition of an instruction leaves CODE, RESULT and the cache as they were, but for a FINISH: its own
list's FIN entry, or the end of the abort path, which leaves the cache as it was too. -/
def Obligations.OnlyFinishWritesResults : Prop :=
  ∀ (ins : Instr) (s t : State), exec ins s = .next t →
    s.SameResults t ∨
    (s.seq = .abort 1 ∧ t.cfgCache = s.cfgCache ∧ t.seq = .idle) ∨
    (∃ i, s.seq = .run (cmdOf ins) i ∧ (stepsOf (cmdOf ins))[i]? = some .fin ∧ t.seq = .idle)

/-- R33: only the FINISH of a SETCFG or TRIG with CODE = OK writes the cache, and it writes V; every other step of the machine but
the reset input leaves the cache unchanged. -/
def Obligations.CacheWrittenOnlyBySetcfgAndTrig : Prop :=
  ∀ s t : State, step s = .next t → t.cfgCache ≠ s.cfgCache →
    ((∃ c i, (c = .setcfg ∨ c = .trig) ∧ s.seq = .run c i ∧ (stepsOf c)[i]? = some .fin) ∧
      t.code = .ok ∧ t.cfgCache = s.v ∧ t.seq = .idle ∧ t.done = true) ∨
    ((∃ rest, s.host = .reset :: rest) ∧ t.cfgCache = 0x00)

/-- R38, R39, R40: which transitions write the latches and temporaries. The command latches change only at an accept, B0 only at
an RDA, B1 only at an RDN, a temporary only at the STOP>T of its channel. -/
def Obligations.LatchFrames : Prop :=
  ∀ (ins : Instr) (s t : State), exec ins s = .next t →
    (s.seq ≠ .idle → t.op = s.op ∧ t.arg = s.arg ∧ t.rsv = s.rsv ∧ t.hi = s.hi ∧ t.v = s.v) ∧
    (t.b0 ≠ s.b0 → ∃ i, s.seq = .run (cmdOf ins) i ∧ (stepsOf (cmdOf ins))[i]? = some .rda) ∧
    (t.b1 ≠ s.b1 → ∃ i, s.seq = .run (cmdOf ins) i ∧ (stepsOf (cmdOf ins))[i]? = some .rdn) ∧
    (t.tmpR ≠ s.tmpR → ∃ i, s.seq = .run (cmdOf ins) i ∧ (stepsOf (cmdOf ins))[i]? = some (.stopTo .red)) ∧
    (t.tmpG ≠ s.tmpG → ∃ i, s.seq = .run (cmdOf ins) i ∧ (stepsOf (cmdOf ins))[i]? = some (.stopTo .green)) ∧
    (t.tmpB ≠ s.tmpB → ∃ i, s.seq = .run (cmdOf ins) i ∧ (stepsOf (cmdOf ins))[i]? = some (.stopTo .blue))

/-- R45, R79: each transition of an instruction takes at most one answer of the transport, an outcome or a byte and never both, and
records at most one primitive, unless it is an accept. That the answers and the record are fields of the state, and that no
transition of an instruction touches the host's events or the values read, is the model's form (log entries 1 to 3). -/
def Obligations.TransitionsMeetTheTransportOnce : Prop :=
  ∀ (ins : Instr) (s t : State), exec ins s = .next t →
    t.host = s.host ∧ t.reads = s.reads ∧
    (t.outcomes = s.outcomes ∨ ∃ o, s.outcomes = o :: t.outcomes) ∧
    (t.bytes = s.bytes ∨ ∃ b, s.bytes = b :: t.bytes) ∧
    (t.outcomes = s.outcomes ∨ t.bytes = s.bytes) ∧
    (s.seq ≠ .idle → t.trace = s.trace ∨ ∃ e, t.trace = s.trace ++ [e])

/-- R24, R25, R26: which steps write BUSY, DONE and OVR. -/
def Obligations.StatusBitFrames : Prop :=
  ∀ s t : State, s.Inv → step s = .next t →
    (s.busy = false → t.busy = true → t.done = false ∧ t.ovr = false ∧ ∃ w rest, s.host = .write 0x0 4 w :: rest) ∧
    (s.busy = true → t.busy = false →
      (t.done = true ∧ t.ovr = s.ovr ∧ t.seq = .idle) ∨ ∃ rest, s.host = .reset :: rest) ∧
    (t.busy = s.busy → t.done = s.done ∨ ∃ rest, s.host = .reset :: rest) ∧
    (s.ovr = false → t.ovr = true → s.busy = true ∧ ∃ w rest, s.host = .write 0x0 4 w :: rest)

/-! ## Invariants -/

/-- R24, R25, R36, R38, R41, R111: every step from a state that meets the control invariant gives one that meets it. That the latches
hold a word in flight which fails decode is the model's reading of R27 (DEDUCED, log entry 9). -/
def Obligations.StepKeepsControlInvariant : Prop :=
  ∀ s t : State, s.Inv → step s = .next t → t.Inv

/-- R31, R106, R134: every step keeps RESULT beside its CODE: the sentinel for UNMAPPED_GAIN, 0 for every other failure. -/
def Obligations.StepKeepsResultBesideCode : Prop :=
  ∀ s t : State, s.ResultMatchesCode → step s = .next t → t.ResultMatchesCode

/-- R82: every step keeps the transaction discipline of the bus trace. -/
def Obligations.StepKeepsBusDiscipline : Prop :=
  ∀ s t : State, s.Inv → s.Disciplined → step s = .next t → t.Disciplined

/-- The three invariants hold at reset. -/
def Obligations.ResetMeetsTheInvariants : Prop :=
  State.reset.Inv ∧ State.reset.ResultMatchesCode ∧ State.reset.Disciplined

/-- R21, R36, R103: from a sound state no step faults, and the only refusal is that of a host access which is not an aligned
32-bit access to a register. -/
def Obligations.OnlyStrayHostAccessesStop : Prop :=
  ∀ s : State, s.Inv →
    (∃ t, step s = .next t) ∨
    (∃ offset width, step s = .refused (.hostAccess offset width) ∧ hostTarget offset width = none ∧
      ((∃ rest, s.host = .read offset width :: rest) ∨ ∃ w rest, s.host = .write offset width w :: rest))

/-! ## Termination and retry -/

/-- R37, R138: a command in flight ends within 19 steps if the transport answers every request, and leaves the bus idle. It
rests on a BusStop that needs no answer (DEDUCED, log entry 5): of a stop that never completes it would be false. -/
def Obligations.CommandEndsWithinNineteenSteps : Prop :=
  ∀ s : State, s.Inv → s.busy = true → s.host = [] → 9 ≤ s.outcomes.length → 6 ≤ s.bytes.length →
    ∃ t, run 19 s = .next t ∧ t.seq = .idle ∧ t.busy = false ∧ t.done = true ∧ t.busOpen = false

/-- R114: any number of failed attempts of a SETCFG or TRIG followed by a successful one leave the visible state that one
successful attempt leaves: STATUS, RESULT, the cache, SEQ and BUS_OPEN. The latches and the model's own fields are not compared. -/
def Obligations.FailedAttemptsLeaveNoTrace : Prop :=
  ∀ (i : Instr) (k : Nat) (s m t s' t' : State), (i = .trig ∨ ∃ cfg, i = .setcfg cfg) →
    s.Ready → s'.Ready → s'.cfgCache = s.cfgCache →
    failedAttempts (encode i) k s m → issue (encode i) m = .next t → t.busy = false → t.code = .ok →
    issue (encode i) s' = .next t' → t'.busy = false → t'.code = .ok →
    t.visible = t'.visible

/-- R113: the presence poll with a bound n: it ends PRESENT after the failed attempts before the first Start that answers OK, with
one interval waited for each, and ABSENT where none of the attempts it may make answers OK. -/
def Obligations.BoundedPresencePoll : Prop :=
  ∀ (p : HostParams) (n : Nat) (s : State),
    p.retryMax = some n → s.Ready → max n 1 ≤ s.outcomes.length →
    (∀ j, s.outcomes.findIdx (fun o => o == .ok) = j → j < max n 1 →
      (presencePoll p (max n 1) 0 0 s).1 = .present ∧
      (presencePoll p (max n 1) 0 0 s).2.1 = j ∧
      (presencePoll p (max n 1) 0 0 s).2.2.1 = j * p.retryIntervalMs) ∧
    (max n 1 ≤ s.outcomes.findIdx (fun o => o == .ok) →
      (presencePoll p (max n 1) 0 0 s).1 = .absent ∧
      (presencePoll p (max n 1) 0 0 s).2.1 = max n 1 ∧
      (presencePoll p (max n 1) 0 0 s).2.2.1 = (max n 1 - 1) * p.retryIntervalMs)
end

