-- ==== Sys2Proof/Laws/PerInstr.lean ====
section
/-! SUPPORT. One law of the encoding for each constructor of `Instr`: the fields of its word (R69, R71). -/

namespace Sys2Proof.Laws

/-- HI of the word with given fields (R69). -/
theorem wordHi_wordOf (hi : Half) (arg : Byte) (rsv op : Nibble) : wordHi (wordOf hi arg rsv op) = hi := by
  ext k hk
  simp [wordHi, wordOf]
  grind

/-- ARG of the word with given fields (R69). -/
theorem wordArg_wordOf (hi : Half) (arg : Byte) (rsv op : Nibble) : wordArg (wordOf hi arg rsv op) = arg := by
  ext k hk
  simp [wordArg, wordOf]
  grind

/-- RSV of the word with given fields (R69). -/
theorem wordRsv_wordOf (hi : Half) (arg : Byte) (rsv op : Nibble) : wordRsv (wordOf hi arg rsv op) = rsv := by
  ext k hk
  simp [wordRsv, wordOf]
  grind

/-- OP of the word with given fields (R69). -/
theorem wordOp_wordOf (hi : Half) (arg : Byte) (rsv op : Nibble) : wordOp (wordOf hi arg rsv op) = op := by
  ext k hk
  simp [wordOp, wordOf]
  grind

/-- A word is the word of its fields (R69). -/
theorem wordOf_fields (w : Word) : wordOf (wordHi w) (wordArg w) (wordRsv w) (wordOp w) = w := by
  ext k hk
  simp [wordHi, wordArg, wordRsv, wordOp, wordOf]
  grind

/-- The fields of the word of an instruction. -/
def EncodingFields.Statement (i : Instr) : Prop :=
  wordHi (encode i) = 0 ∧ wordRsv (encode i) = 0 ∧ wordArg (encode i) = i.argument ∧ wordOp (encode i) = i.opcode

theorem encodingFields_of (i : Instr) : EncodingFields.Statement i :=
  ⟨wordHi_wordOf .., wordRsv_wordOf .., wordArg_wordOf .., wordOp_wordOf ..⟩

theorem EncodingFields.chkp : EncodingFields.Statement .chkp := encodingFields_of _
theorem EncodingFields.setcfg (cfg : Byte) : EncodingFields.Statement (.setcfg cfg) := encodingFields_of _
theorem EncodingFields.rdch (code : Byte) : EncodingFields.Statement (.rdch code) := encodingFields_of _
theorem EncodingFields.cct : EncodingFields.Statement .cct := encodingFields_of _
theorem EncodingFields.lux : EncodingFields.Statement .lux := encodingFields_of _
theorem EncodingFields.trig : EncodingFields.Statement .trig := encodingFields_of _

end Sys2Proof.Laws
end

