-- ==== Sys2Proof/Laws/State.lean ====
section
/-! SUPPORT. One lemma per field per named update of the state, so that no proof unfolds a record update. -/

namespace Sys2Proof.Machine

@[simp] theorem State.record_busy (s : State) (e : BusEvent) : (s.record e).busy = s.busy := rfl
@[simp] theorem State.record_done (s : State) (e : BusEvent) : (s.record e).done = s.done := rfl
@[simp] theorem State.record_ovr (s : State) (e : BusEvent) : (s.record e).ovr = s.ovr := rfl
@[simp] theorem State.record_code (s : State) (e : BusEvent) : (s.record e).code = s.code := rfl
@[simp] theorem State.record_result (s : State) (e : BusEvent) : (s.record e).result = s.result := rfl
@[simp] theorem State.record_cfgCache (s : State) (e : BusEvent) : (s.record e).cfgCache = s.cfgCache := rfl
@[simp] theorem State.record_seq (s : State) (e : BusEvent) : (s.record e).seq = s.seq := rfl
@[simp] theorem State.record_op (s : State) (e : BusEvent) : (s.record e).op = s.op := rfl
@[simp] theorem State.record_arg (s : State) (e : BusEvent) : (s.record e).arg = s.arg := rfl
@[simp] theorem State.record_rsv (s : State) (e : BusEvent) : (s.record e).rsv = s.rsv := rfl
@[simp] theorem State.record_hi (s : State) (e : BusEvent) : (s.record e).hi = s.hi := rfl
@[simp] theorem State.record_v (s : State) (e : BusEvent) : (s.record e).v = s.v := rfl
@[simp] theorem State.record_b0 (s : State) (e : BusEvent) : (s.record e).b0 = s.b0 := rfl
@[simp] theorem State.record_b1 (s : State) (e : BusEvent) : (s.record e).b1 = s.b1 := rfl
@[simp] theorem State.record_tmpR (s : State) (e : BusEvent) : (s.record e).tmpR = s.tmpR := rfl
@[simp] theorem State.record_tmpG (s : State) (e : BusEvent) : (s.record e).tmpG = s.tmpG := rfl
@[simp] theorem State.record_tmpB (s : State) (e : BusEvent) : (s.record e).tmpB = s.tmpB := rfl
@[simp] theorem State.record_busOpen (s : State) (e : BusEvent) : (s.record e).busOpen = s.busOpen := rfl
@[simp] theorem State.record_host (s : State) (e : BusEvent) : (s.record e).host = s.host := rfl
@[simp] theorem State.record_outcomes (s : State) (e : BusEvent) : (s.record e).outcomes = s.outcomes := rfl
@[simp] theorem State.record_bytes (s : State) (e : BusEvent) : (s.record e).bytes = s.bytes := rfl
@[simp] theorem State.record_trace (s : State) (e : BusEvent) : (s.record e).trace = s.trace ++ [e] := rfl
@[simp] theorem State.record_reads (s : State) (e : BusEvent) : (s.record e).reads = s.reads := rfl

@[simp] theorem State.busStop_busy (s : State) : (s.busStop).busy = s.busy := rfl
@[simp] theorem State.busStop_done (s : State) : (s.busStop).done = s.done := rfl
@[simp] theorem State.busStop_ovr (s : State) : (s.busStop).ovr = s.ovr := rfl
@[simp] theorem State.busStop_code (s : State) : (s.busStop).code = s.code := rfl
@[simp] theorem State.busStop_result (s : State) : (s.busStop).result = s.result := rfl
@[simp] theorem State.busStop_cfgCache (s : State) : (s.busStop).cfgCache = s.cfgCache := rfl
@[simp] theorem State.busStop_seq (s : State) : (s.busStop).seq = s.seq := rfl
@[simp] theorem State.busStop_op (s : State) : (s.busStop).op = s.op := rfl
@[simp] theorem State.busStop_arg (s : State) : (s.busStop).arg = s.arg := rfl
@[simp] theorem State.busStop_rsv (s : State) : (s.busStop).rsv = s.rsv := rfl
@[simp] theorem State.busStop_hi (s : State) : (s.busStop).hi = s.hi := rfl
@[simp] theorem State.busStop_v (s : State) : (s.busStop).v = s.v := rfl
@[simp] theorem State.busStop_b0 (s : State) : (s.busStop).b0 = s.b0 := rfl
@[simp] theorem State.busStop_b1 (s : State) : (s.busStop).b1 = s.b1 := rfl
@[simp] theorem State.busStop_tmpR (s : State) : (s.busStop).tmpR = s.tmpR := rfl
@[simp] theorem State.busStop_tmpG (s : State) : (s.busStop).tmpG = s.tmpG := rfl
@[simp] theorem State.busStop_tmpB (s : State) : (s.busStop).tmpB = s.tmpB := rfl
@[simp] theorem State.busStop_busOpen (s : State) : (s.busStop).busOpen = false := rfl
@[simp] theorem State.busStop_host (s : State) : (s.busStop).host = s.host := rfl
@[simp] theorem State.busStop_outcomes (s : State) : (s.busStop).outcomes = s.outcomes := rfl
@[simp] theorem State.busStop_bytes (s : State) : (s.busStop).bytes = s.bytes := rfl
@[simp] theorem State.busStop_trace (s : State) : (s.busStop).trace = s.trace ++ [.stop] := rfl
@[simp] theorem State.busStop_reads (s : State) : (s.busStop).reads = s.reads := rfl

@[simp] theorem State.advance_busy (s : State) (c : Cmd) (i : Nat) : (s.advance c i).busy = s.busy := rfl
@[simp] theorem State.advance_done (s : State) (c : Cmd) (i : Nat) : (s.advance c i).done = s.done := rfl
@[simp] theorem State.advance_ovr (s : State) (c : Cmd) (i : Nat) : (s.advance c i).ovr = s.ovr := rfl
@[simp] theorem State.advance_code (s : State) (c : Cmd) (i : Nat) : (s.advance c i).code = s.code := rfl
@[simp] theorem State.advance_result (s : State) (c : Cmd) (i : Nat) : (s.advance c i).result = s.result := rfl
@[simp] theorem State.advance_cfgCache (s : State) (c : Cmd) (i : Nat) : (s.advance c i).cfgCache = s.cfgCache := rfl
@[simp] theorem State.advance_seq (s : State) (c : Cmd) (i : Nat) : (s.advance c i).seq = .run c (i + 1) := rfl
@[simp] theorem State.advance_op (s : State) (c : Cmd) (i : Nat) : (s.advance c i).op = s.op := rfl
@[simp] theorem State.advance_arg (s : State) (c : Cmd) (i : Nat) : (s.advance c i).arg = s.arg := rfl
@[simp] theorem State.advance_rsv (s : State) (c : Cmd) (i : Nat) : (s.advance c i).rsv = s.rsv := rfl
@[simp] theorem State.advance_hi (s : State) (c : Cmd) (i : Nat) : (s.advance c i).hi = s.hi := rfl
@[simp] theorem State.advance_v (s : State) (c : Cmd) (i : Nat) : (s.advance c i).v = s.v := rfl
@[simp] theorem State.advance_b0 (s : State) (c : Cmd) (i : Nat) : (s.advance c i).b0 = s.b0 := rfl
@[simp] theorem State.advance_b1 (s : State) (c : Cmd) (i : Nat) : (s.advance c i).b1 = s.b1 := rfl
@[simp] theorem State.advance_tmpR (s : State) (c : Cmd) (i : Nat) : (s.advance c i).tmpR = s.tmpR := rfl
@[simp] theorem State.advance_tmpG (s : State) (c : Cmd) (i : Nat) : (s.advance c i).tmpG = s.tmpG := rfl
@[simp] theorem State.advance_tmpB (s : State) (c : Cmd) (i : Nat) : (s.advance c i).tmpB = s.tmpB := rfl
@[simp] theorem State.advance_busOpen (s : State) (c : Cmd) (i : Nat) : (s.advance c i).busOpen = s.busOpen := rfl
@[simp] theorem State.advance_host (s : State) (c : Cmd) (i : Nat) : (s.advance c i).host = s.host := rfl
@[simp] theorem State.advance_outcomes (s : State) (c : Cmd) (i : Nat) : (s.advance c i).outcomes = s.outcomes := rfl
@[simp] theorem State.advance_bytes (s : State) (c : Cmd) (i : Nat) : (s.advance c i).bytes = s.bytes := rfl
@[simp] theorem State.advance_trace (s : State) (c : Cmd) (i : Nat) : (s.advance c i).trace = s.trace := rfl
@[simp] theorem State.advance_reads (s : State) (c : Cmd) (i : Nat) : (s.advance c i).reads = s.reads := rfl

@[simp] theorem State.enterAbort_busy (s : State) : (s.enterAbort).busy = s.busy := rfl
@[simp] theorem State.enterAbort_done (s : State) : (s.enterAbort).done = s.done := rfl
@[simp] theorem State.enterAbort_ovr (s : State) : (s.enterAbort).ovr = s.ovr := rfl
@[simp] theorem State.enterAbort_code (s : State) : (s.enterAbort).code = s.code := rfl
@[simp] theorem State.enterAbort_result (s : State) : (s.enterAbort).result = s.result := rfl
@[simp] theorem State.enterAbort_cfgCache (s : State) : (s.enterAbort).cfgCache = s.cfgCache := rfl
@[simp] theorem State.enterAbort_seq (s : State) : (s.enterAbort).seq = .abort 0 := rfl
@[simp] theorem State.enterAbort_op (s : State) : (s.enterAbort).op = s.op := rfl
@[simp] theorem State.enterAbort_arg (s : State) : (s.enterAbort).arg = s.arg := rfl
@[simp] theorem State.enterAbort_rsv (s : State) : (s.enterAbort).rsv = s.rsv := rfl
@[simp] theorem State.enterAbort_hi (s : State) : (s.enterAbort).hi = s.hi := rfl
@[simp] theorem State.enterAbort_v (s : State) : (s.enterAbort).v = s.v := rfl
@[simp] theorem State.enterAbort_b0 (s : State) : (s.enterAbort).b0 = s.b0 := rfl
@[simp] theorem State.enterAbort_b1 (s : State) : (s.enterAbort).b1 = s.b1 := rfl
@[simp] theorem State.enterAbort_tmpR (s : State) : (s.enterAbort).tmpR = s.tmpR := rfl
@[simp] theorem State.enterAbort_tmpG (s : State) : (s.enterAbort).tmpG = s.tmpG := rfl
@[simp] theorem State.enterAbort_tmpB (s : State) : (s.enterAbort).tmpB = s.tmpB := rfl
@[simp] theorem State.enterAbort_busOpen (s : State) : (s.enterAbort).busOpen = s.busOpen := rfl
@[simp] theorem State.enterAbort_host (s : State) : (s.enterAbort).host = s.host := rfl
@[simp] theorem State.enterAbort_outcomes (s : State) : (s.enterAbort).outcomes = s.outcomes := rfl
@[simp] theorem State.enterAbort_bytes (s : State) : (s.enterAbort).bytes = s.bytes := rfl
@[simp] theorem State.enterAbort_trace (s : State) : (s.enterAbort).trace = s.trace := rfl
@[simp] theorem State.enterAbort_reads (s : State) : (s.enterAbort).reads = s.reads := rfl

@[simp] theorem State.follow_busy (s : State) (c : Cmd) (i : Nat) (o : BusOutcome) : (s.follow c i o).busy = s.busy := by cases o <;> rfl
@[simp] theorem State.follow_done (s : State) (c : Cmd) (i : Nat) (o : BusOutcome) : (s.follow c i o).done = s.done := by cases o <;> rfl
@[simp] theorem State.follow_ovr (s : State) (c : Cmd) (i : Nat) (o : BusOutcome) : (s.follow c i o).ovr = s.ovr := by cases o <;> rfl
@[simp] theorem State.follow_code (s : State) (c : Cmd) (i : Nat) (o : BusOutcome) : (s.follow c i o).code = s.code := by cases o <;> rfl
@[simp] theorem State.follow_result (s : State) (c : Cmd) (i : Nat) (o : BusOutcome) : (s.follow c i o).result = s.result := by cases o <;> rfl
@[simp] theorem State.follow_cfgCache (s : State) (c : Cmd) (i : Nat) (o : BusOutcome) : (s.follow c i o).cfgCache = s.cfgCache := by cases o <;> rfl
@[simp] theorem State.follow_seq (s : State) (c : Cmd) (i : Nat) (o : BusOutcome) : (s.follow c i o).seq = (match o with | .ok => .run c (i + 1) | .fail => .abort 0) := by cases o <;> rfl
@[simp] theorem State.follow_op (s : State) (c : Cmd) (i : Nat) (o : BusOutcome) : (s.follow c i o).op = s.op := by cases o <;> rfl
@[simp] theorem State.follow_arg (s : State) (c : Cmd) (i : Nat) (o : BusOutcome) : (s.follow c i o).arg = s.arg := by cases o <;> rfl
@[simp] theorem State.follow_rsv (s : State) (c : Cmd) (i : Nat) (o : BusOutcome) : (s.follow c i o).rsv = s.rsv := by cases o <;> rfl
@[simp] theorem State.follow_hi (s : State) (c : Cmd) (i : Nat) (o : BusOutcome) : (s.follow c i o).hi = s.hi := by cases o <;> rfl
@[simp] theorem State.follow_v (s : State) (c : Cmd) (i : Nat) (o : BusOutcome) : (s.follow c i o).v = s.v := by cases o <;> rfl
@[simp] theorem State.follow_b0 (s : State) (c : Cmd) (i : Nat) (o : BusOutcome) : (s.follow c i o).b0 = s.b0 := by cases o <;> rfl
@[simp] theorem State.follow_b1 (s : State) (c : Cmd) (i : Nat) (o : BusOutcome) : (s.follow c i o).b1 = s.b1 := by cases o <;> rfl
@[simp] theorem State.follow_tmpR (s : State) (c : Cmd) (i : Nat) (o : BusOutcome) : (s.follow c i o).tmpR = s.tmpR := by cases o <;> rfl
@[simp] theorem State.follow_tmpG (s : State) (c : Cmd) (i : Nat) (o : BusOutcome) : (s.follow c i o).tmpG = s.tmpG := by cases o <;> rfl
@[simp] theorem State.follow_tmpB (s : State) (c : Cmd) (i : Nat) (o : BusOutcome) : (s.follow c i o).tmpB = s.tmpB := by cases o <;> rfl
@[simp] theorem State.follow_busOpen (s : State) (c : Cmd) (i : Nat) (o : BusOutcome) : (s.follow c i o).busOpen = s.busOpen := by cases o <;> rfl
@[simp] theorem State.follow_host (s : State) (c : Cmd) (i : Nat) (o : BusOutcome) : (s.follow c i o).host = s.host := by cases o <;> rfl
@[simp] theorem State.follow_outcomes (s : State) (c : Cmd) (i : Nat) (o : BusOutcome) : (s.follow c i o).outcomes = s.outcomes := by cases o <;> rfl
@[simp] theorem State.follow_bytes (s : State) (c : Cmd) (i : Nat) (o : BusOutcome) : (s.follow c i o).bytes = s.bytes := by cases o <;> rfl
@[simp] theorem State.follow_trace (s : State) (c : Cmd) (i : Nat) (o : BusOutcome) : (s.follow c i o).trace = s.trace := by cases o <;> rfl
@[simp] theorem State.follow_reads (s : State) (c : Cmd) (i : Nat) (o : BusOutcome) : (s.follow c i o).reads = s.reads := by cases o <;> rfl

@[simp] theorem State.setTemp_busy (s : State) (k : Temp) (x : Half) : (s.setTemp k x).busy = s.busy := by cases k <;> rfl
@[simp] theorem State.setTemp_done (s : State) (k : Temp) (x : Half) : (s.setTemp k x).done = s.done := by cases k <;> rfl
@[simp] theorem State.setTemp_ovr (s : State) (k : Temp) (x : Half) : (s.setTemp k x).ovr = s.ovr := by cases k <;> rfl
@[simp] theorem State.setTemp_code (s : State) (k : Temp) (x : Half) : (s.setTemp k x).code = s.code := by cases k <;> rfl
@[simp] theorem State.setTemp_result (s : State) (k : Temp) (x : Half) : (s.setTemp k x).result = s.result := by cases k <;> rfl
@[simp] theorem State.setTemp_cfgCache (s : State) (k : Temp) (x : Half) : (s.setTemp k x).cfgCache = s.cfgCache := by cases k <;> rfl
@[simp] theorem State.setTemp_seq (s : State) (k : Temp) (x : Half) : (s.setTemp k x).seq = s.seq := by cases k <;> rfl
@[simp] theorem State.setTemp_op (s : State) (k : Temp) (x : Half) : (s.setTemp k x).op = s.op := by cases k <;> rfl
@[simp] theorem State.setTemp_arg (s : State) (k : Temp) (x : Half) : (s.setTemp k x).arg = s.arg := by cases k <;> rfl
@[simp] theorem State.setTemp_rsv (s : State) (k : Temp) (x : Half) : (s.setTemp k x).rsv = s.rsv := by cases k <;> rfl
@[simp] theorem State.setTemp_hi (s : State) (k : Temp) (x : Half) : (s.setTemp k x).hi = s.hi := by cases k <;> rfl
@[simp] theorem State.setTemp_v (s : State) (k : Temp) (x : Half) : (s.setTemp k x).v = s.v := by cases k <;> rfl
@[simp] theorem State.setTemp_b0 (s : State) (k : Temp) (x : Half) : (s.setTemp k x).b0 = s.b0 := by cases k <;> rfl
@[simp] theorem State.setTemp_b1 (s : State) (k : Temp) (x : Half) : (s.setTemp k x).b1 = s.b1 := by cases k <;> rfl
@[simp] theorem State.setTemp_tmpR (s : State) (k : Temp) (x : Half) : (s.setTemp k x).tmpR = (if k = .red then x else s.tmpR) := by cases k <;> rfl
@[simp] theorem State.setTemp_tmpG (s : State) (k : Temp) (x : Half) : (s.setTemp k x).tmpG = (if k = .green then x else s.tmpG) := by cases k <;> rfl
@[simp] theorem State.setTemp_tmpB (s : State) (k : Temp) (x : Half) : (s.setTemp k x).tmpB = (if k = .blue then x else s.tmpB) := by cases k <;> rfl
@[simp] theorem State.setTemp_busOpen (s : State) (k : Temp) (x : Half) : (s.setTemp k x).busOpen = s.busOpen := by cases k <;> rfl
@[simp] theorem State.setTemp_host (s : State) (k : Temp) (x : Half) : (s.setTemp k x).host = s.host := by cases k <;> rfl
@[simp] theorem State.setTemp_outcomes (s : State) (k : Temp) (x : Half) : (s.setTemp k x).outcomes = s.outcomes := by cases k <;> rfl
@[simp] theorem State.setTemp_bytes (s : State) (k : Temp) (x : Half) : (s.setTemp k x).bytes = s.bytes := by cases k <;> rfl
@[simp] theorem State.setTemp_trace (s : State) (k : Temp) (x : Half) : (s.setTemp k x).trace = s.trace := by cases k <;> rfl
@[simp] theorem State.setTemp_reads (s : State) (k : Temp) (x : Half) : (s.setTemp k x).reads = s.reads := by cases k <;> rfl

@[simp] theorem State.finish_busy (s : State) (l : Bool) (c : Code) (r : Word) : (s.finish l c r).busy = false := rfl
@[simp] theorem State.finish_done (s : State) (l : Bool) (c : Code) (r : Word) : (s.finish l c r).done = true := rfl
@[simp] theorem State.finish_ovr (s : State) (l : Bool) (c : Code) (r : Word) : (s.finish l c r).ovr = s.ovr := rfl
@[simp] theorem State.finish_code (s : State) (l : Bool) (c : Code) (r : Word) : (s.finish l c r).code = c := rfl
@[simp] theorem State.finish_result (s : State) (l : Bool) (c : Code) (r : Word) : (s.finish l c r).result = r := rfl
@[simp] theorem State.finish_cfgCache (s : State) (l : Bool) (c : Code) (r : Word) : (s.finish l c r).cfgCache = (if l ∧ c = .ok then s.v else s.cfgCache) := rfl
@[simp] theorem State.finish_seq (s : State) (l : Bool) (c : Code) (r : Word) : (s.finish l c r).seq = .idle := rfl
@[simp] theorem State.finish_op (s : State) (l : Bool) (c : Code) (r : Word) : (s.finish l c r).op = s.op := rfl
@[simp] theorem State.finish_arg (s : State) (l : Bool) (c : Code) (r : Word) : (s.finish l c r).arg = s.arg := rfl
@[simp] theorem State.finish_rsv (s : State) (l : Bool) (c : Code) (r : Word) : (s.finish l c r).rsv = s.rsv := rfl
@[simp] theorem State.finish_hi (s : State) (l : Bool) (c : Code) (r : Word) : (s.finish l c r).hi = s.hi := rfl
@[simp] theorem State.finish_v (s : State) (l : Bool) (c : Code) (r : Word) : (s.finish l c r).v = s.v := rfl
@[simp] theorem State.finish_b0 (s : State) (l : Bool) (c : Code) (r : Word) : (s.finish l c r).b0 = s.b0 := rfl
@[simp] theorem State.finish_b1 (s : State) (l : Bool) (c : Code) (r : Word) : (s.finish l c r).b1 = s.b1 := rfl
@[simp] theorem State.finish_tmpR (s : State) (l : Bool) (c : Code) (r : Word) : (s.finish l c r).tmpR = s.tmpR := rfl
@[simp] theorem State.finish_tmpG (s : State) (l : Bool) (c : Code) (r : Word) : (s.finish l c r).tmpG = s.tmpG := rfl
@[simp] theorem State.finish_tmpB (s : State) (l : Bool) (c : Code) (r : Word) : (s.finish l c r).tmpB = s.tmpB := rfl
@[simp] theorem State.finish_busOpen (s : State) (l : Bool) (c : Code) (r : Word) : (s.finish l c r).busOpen = s.busOpen := rfl
@[simp] theorem State.finish_host (s : State) (l : Bool) (c : Code) (r : Word) : (s.finish l c r).host = s.host := rfl
@[simp] theorem State.finish_outcomes (s : State) (l : Bool) (c : Code) (r : Word) : (s.finish l c r).outcomes = s.outcomes := rfl
@[simp] theorem State.finish_bytes (s : State) (l : Bool) (c : Code) (r : Word) : (s.finish l c r).bytes = s.bytes := rfl
@[simp] theorem State.finish_trace (s : State) (l : Bool) (c : Code) (r : Word) : (s.finish l c r).trace = s.trace := rfl
@[simp] theorem State.finish_reads (s : State) (l : Bool) (c : Code) (r : Word) : (s.finish l c r).reads = s.reads := rfl

@[simp] theorem State.accept_busy (s : State) (w : Word) : (s.accept w).busy = true := rfl
@[simp] theorem State.accept_done (s : State) (w : Word) : (s.accept w).done = false := rfl
@[simp] theorem State.accept_ovr (s : State) (w : Word) : (s.accept w).ovr = false := rfl
@[simp] theorem State.accept_code (s : State) (w : Word) : (s.accept w).code = s.code := rfl
@[simp] theorem State.accept_result (s : State) (w : Word) : (s.accept w).result = s.result := rfl
@[simp] theorem State.accept_cfgCache (s : State) (w : Word) : (s.accept w).cfgCache = s.cfgCache := rfl
@[simp] theorem State.accept_seq (s : State) (w : Word) : (s.accept w).seq = .run (classify w) 0 := rfl
@[simp] theorem State.accept_op (s : State) (w : Word) : (s.accept w).op = wordOp w := rfl
@[simp] theorem State.accept_arg (s : State) (w : Word) : (s.accept w).arg = wordArg w := rfl
@[simp] theorem State.accept_rsv (s : State) (w : Word) : (s.accept w).rsv = wordRsv w := rfl
@[simp] theorem State.accept_hi (s : State) (w : Word) : (s.accept w).hi = wordHi w := rfl
@[simp] theorem State.accept_v (s : State) (w : Word) : (s.accept w).v = (if wordOp w = 6 then triggered s.cfgCache else if wordOp w = 2 then wordArg w else s.v) := rfl
@[simp] theorem State.accept_b0 (s : State) (w : Word) : (s.accept w).b0 = s.b0 := rfl
@[simp] theorem State.accept_b1 (s : State) (w : Word) : (s.accept w).b1 = s.b1 := rfl
@[simp] theorem State.accept_tmpR (s : State) (w : Word) : (s.accept w).tmpR = s.tmpR := rfl
@[simp] theorem State.accept_tmpG (s : State) (w : Word) : (s.accept w).tmpG = s.tmpG := rfl
@[simp] theorem State.accept_tmpB (s : State) (w : Word) : (s.accept w).tmpB = s.tmpB := rfl
@[simp] theorem State.accept_busOpen (s : State) (w : Word) : (s.accept w).busOpen = s.busOpen := rfl
@[simp] theorem State.accept_host (s : State) (w : Word) : (s.accept w).host = s.host := rfl
@[simp] theorem State.accept_outcomes (s : State) (w : Word) : (s.accept w).outcomes = s.outcomes := rfl
@[simp] theorem State.accept_bytes (s : State) (w : Word) : (s.accept w).bytes = s.bytes := rfl
@[simp] theorem State.accept_trace (s : State) (w : Word) : (s.accept w).trace = [] := rfl
@[simp] theorem State.accept_reads (s : State) (w : Word) : (s.accept w).reads = s.reads := rfl

@[simp] theorem State.overrun_busy (s : State) : (s.overrun).busy = s.busy := rfl
@[simp] theorem State.overrun_done (s : State) : (s.overrun).done = s.done := rfl
@[simp] theorem State.overrun_ovr (s : State) : (s.overrun).ovr = true := rfl
@[simp] theorem State.overrun_code (s : State) : (s.overrun).code = s.code := rfl
@[simp] theorem State.overrun_result (s : State) : (s.overrun).result = s.result := rfl
@[simp] theorem State.overrun_cfgCache (s : State) : (s.overrun).cfgCache = s.cfgCache := rfl
@[simp] theorem State.overrun_seq (s : State) : (s.overrun).seq = s.seq := rfl
@[simp] theorem State.overrun_op (s : State) : (s.overrun).op = s.op := rfl
@[simp] theorem State.overrun_arg (s : State) : (s.overrun).arg = s.arg := rfl
@[simp] theorem State.overrun_rsv (s : State) : (s.overrun).rsv = s.rsv := rfl
@[simp] theorem State.overrun_hi (s : State) : (s.overrun).hi = s.hi := rfl
@[simp] theorem State.overrun_v (s : State) : (s.overrun).v = s.v := rfl
@[simp] theorem State.overrun_b0 (s : State) : (s.overrun).b0 = s.b0 := rfl
@[simp] theorem State.overrun_b1 (s : State) : (s.overrun).b1 = s.b1 := rfl
@[simp] theorem State.overrun_tmpR (s : State) : (s.overrun).tmpR = s.tmpR := rfl
@[simp] theorem State.overrun_tmpG (s : State) : (s.overrun).tmpG = s.tmpG := rfl
@[simp] theorem State.overrun_tmpB (s : State) : (s.overrun).tmpB = s.tmpB := rfl
@[simp] theorem State.overrun_busOpen (s : State) : (s.overrun).busOpen = s.busOpen := rfl
@[simp] theorem State.overrun_host (s : State) : (s.overrun).host = s.host := rfl
@[simp] theorem State.overrun_outcomes (s : State) : (s.overrun).outcomes = s.outcomes := rfl
@[simp] theorem State.overrun_bytes (s : State) : (s.overrun).bytes = s.bytes := rfl
@[simp] theorem State.overrun_trace (s : State) : (s.overrun).trace = s.trace := rfl
@[simp] theorem State.overrun_reads (s : State) : (s.overrun).reads = s.reads := rfl

@[simp] theorem State.hostRead_busy (s : State) (r : HostReg) : (s.hostRead r).busy = s.busy := rfl
@[simp] theorem State.hostRead_done (s : State) (r : HostReg) : (s.hostRead r).done = s.done := rfl
@[simp] theorem State.hostRead_ovr (s : State) (r : HostReg) : (s.hostRead r).ovr = s.ovr := rfl
@[simp] theorem State.hostRead_code (s : State) (r : HostReg) : (s.hostRead r).code = s.code := rfl
@[simp] theorem State.hostRead_result (s : State) (r : HostReg) : (s.hostRead r).result = s.result := rfl
@[simp] theorem State.hostRead_cfgCache (s : State) (r : HostReg) : (s.hostRead r).cfgCache = s.cfgCache := rfl
@[simp] theorem State.hostRead_seq (s : State) (r : HostReg) : (s.hostRead r).seq = s.seq := rfl
@[simp] theorem State.hostRead_op (s : State) (r : HostReg) : (s.hostRead r).op = s.op := rfl
@[simp] theorem State.hostRead_arg (s : State) (r : HostReg) : (s.hostRead r).arg = s.arg := rfl
@[simp] theorem State.hostRead_rsv (s : State) (r : HostReg) : (s.hostRead r).rsv = s.rsv := rfl
@[simp] theorem State.hostRead_hi (s : State) (r : HostReg) : (s.hostRead r).hi = s.hi := rfl
@[simp] theorem State.hostRead_v (s : State) (r : HostReg) : (s.hostRead r).v = s.v := rfl
@[simp] theorem State.hostRead_b0 (s : State) (r : HostReg) : (s.hostRead r).b0 = s.b0 := rfl
@[simp] theorem State.hostRead_b1 (s : State) (r : HostReg) : (s.hostRead r).b1 = s.b1 := rfl
@[simp] theorem State.hostRead_tmpR (s : State) (r : HostReg) : (s.hostRead r).tmpR = s.tmpR := rfl
@[simp] theorem State.hostRead_tmpG (s : State) (r : HostReg) : (s.hostRead r).tmpG = s.tmpG := rfl
@[simp] theorem State.hostRead_tmpB (s : State) (r : HostReg) : (s.hostRead r).tmpB = s.tmpB := rfl
@[simp] theorem State.hostRead_busOpen (s : State) (r : HostReg) : (s.hostRead r).busOpen = s.busOpen := rfl
@[simp] theorem State.hostRead_host (s : State) (r : HostReg) : (s.hostRead r).host = s.host := rfl
@[simp] theorem State.hostRead_outcomes (s : State) (r : HostReg) : (s.hostRead r).outcomes = s.outcomes := rfl
@[simp] theorem State.hostRead_bytes (s : State) (r : HostReg) : (s.hostRead r).bytes = s.bytes := rfl
@[simp] theorem State.hostRead_trace (s : State) (r : HostReg) : (s.hostRead r).trace = s.trace := rfl
@[simp] theorem State.hostRead_reads (s : State) (r : HostReg) : (s.hostRead r).reads = s.reads ++ [s.hostValue r] := rfl

@[simp] theorem State.resetInput_busy (s : State) : s.resetInput.busy = State.reset.busy := rfl
@[simp] theorem State.resetInput_done (s : State) : s.resetInput.done = State.reset.done := rfl
@[simp] theorem State.resetInput_ovr (s : State) : s.resetInput.ovr = State.reset.ovr := rfl
@[simp] theorem State.resetInput_code (s : State) : s.resetInput.code = State.reset.code := rfl
@[simp] theorem State.resetInput_result (s : State) : s.resetInput.result = State.reset.result := rfl
@[simp] theorem State.resetInput_cfgCache (s : State) : s.resetInput.cfgCache = State.reset.cfgCache := rfl
@[simp] theorem State.resetInput_seq (s : State) : s.resetInput.seq = State.reset.seq := rfl
@[simp] theorem State.resetInput_op (s : State) : s.resetInput.op = State.reset.op := rfl
@[simp] theorem State.resetInput_arg (s : State) : s.resetInput.arg = State.reset.arg := rfl
@[simp] theorem State.resetInput_rsv (s : State) : s.resetInput.rsv = State.reset.rsv := rfl
@[simp] theorem State.resetInput_hi (s : State) : s.resetInput.hi = State.reset.hi := rfl
@[simp] theorem State.resetInput_v (s : State) : s.resetInput.v = State.reset.v := rfl
@[simp] theorem State.resetInput_b0 (s : State) : s.resetInput.b0 = State.reset.b0 := rfl
@[simp] theorem State.resetInput_b1 (s : State) : s.resetInput.b1 = State.reset.b1 := rfl
@[simp] theorem State.resetInput_tmpR (s : State) : s.resetInput.tmpR = State.reset.tmpR := rfl
@[simp] theorem State.resetInput_tmpG (s : State) : s.resetInput.tmpG = State.reset.tmpG := rfl
@[simp] theorem State.resetInput_tmpB (s : State) : s.resetInput.tmpB = State.reset.tmpB := rfl
@[simp] theorem State.resetInput_busOpen (s : State) : s.resetInput.busOpen = State.reset.busOpen := rfl
@[simp] theorem State.resetInput_host (s : State) : s.resetInput.host = s.host := rfl
@[simp] theorem State.resetInput_outcomes (s : State) : s.resetInput.outcomes = s.outcomes := rfl
@[simp] theorem State.resetInput_bytes (s : State) : s.resetInput.bytes = s.bytes := rfl
@[simp] theorem State.resetInput_trace (s : State) : s.resetInput.trace = s.trace := rfl
@[simp] theorem State.resetInput_reads (s : State) : s.resetInput.reads = s.reads := rfl

/-- ABORT(0) is the stop (R109). -/
@[simp] theorem State.abortStep_zero (s : State) : s.abortStep 0 = { s.busStop with seq := .abort 1 } := rfl

/-- ABORT(1) is FINISH with BUS_ERROR (R109). -/
@[simp] theorem State.abortStep_one (s : State) : s.abortStep 1 = s.finish false .busError 0 := rfl

end Sys2Proof.Machine
end

