-- ==== Sys2Proof/Laws/Ops.lean ====
section
/-! SUPPORT. What each shared operation can do, said once: an inversion lemma for each bus primitive, for one entry of a step list,
for the transition of a command, for the sequencer's turn and for the host's. The provers cite these instead of unfolding. -/

namespace Sys2Proof.Machine

theorem State.takeOutcome_eq_some {s t : State} {o : BusOutcome} (h : s.takeOutcome = some (o, t)) :
    ∃ rest, s.outcomes = o :: rest ∧ t = { s with outcomes := rest } := by
  unfold State.takeOutcome at h
  split at h
  · cases h
  · next rest heq => cases h; exact ⟨_, heq, rfl⟩

theorem State.takeByte_eq_some {s t : State} {b : Byte} (h : s.takeByte = some (b, t)) :
    ∃ rest, s.bytes = b :: rest ∧ t = { s with bytes := rest } := by
  unfold State.takeByte at h
  split at h
  · cases h
  · next rest heq => cases h; exact ⟨_, heq, rfl⟩

/-- The bit of an outcome and the outcome of a bit undo each other (R51). -/
@[simp] theorem BusOutcome.ofBit_bit (o : BusOutcome) : BusOutcome.ofBit o.bit = o := by cases o <;> rfl

@[simp] theorem BusOutcome.bit_ofBit (b : BitVec 1) : (BusOutcome.ofBit b).bit = b := by
  revert b; decide

/-- Where SEQ goes after a primitive, said of the port's bit: 0 goes on, 1 aborts (R51, R79). -/
theorem State.follow_eq_bit (s : State) (c : Cmd) (i : Nat) (o : BusOutcome) :
    s.follow c i o = if o.bit = 0#1 then s.advance c i else s.enterAbort := by
  cases o <;> rfl

/-- BusStart, answered (R46). -/
theorem State.busStart_answered {s : State} {o : BusOutcome} {rest : List BusOutcome} (h : s.outcomes = o :: rest)
    (a : Addr7) (d : Dir) :
    s.busStart a d =
      some (o, { s with outcomes := rest, trace := s.trace ++ [.start a d o], busOpen := true }) := by
  simp [State.busStart, State.takeOutcome, h, State.record]

/-- BusRestart, answered (R47). -/
theorem State.busRestart_answered {s : State} {o : BusOutcome} {rest : List BusOutcome} (h : s.outcomes = o :: rest)
    (a : Addr7) (d : Dir) :
    s.busRestart a d = some (o, { s with outcomes := rest, trace := s.trace ++ [.restart a d o] }) := by
  simp [State.busRestart, State.takeOutcome, h, State.record]

/-- BusWrite, answered (R48). -/
theorem State.busWrite_answered {s : State} {o : BusOutcome} {rest : List BusOutcome} (h : s.outcomes = o :: rest)
    (b : Byte) :
    s.busWrite b = some (o, { s with outcomes := rest, trace := s.trace ++ [.write b o] }) := by
  simp [State.busWrite, State.takeOutcome, h, State.record]

/-- BusRead, answered (R49). -/
theorem State.busRead_answered {s : State} {b : Byte} {rest : List Byte} (h : s.bytes = b :: rest) (a : Ack) :
    s.busRead a = some (b, { s with bytes := rest, trace := s.trace ++ [.read a b] }) := by
  simp [State.busRead, State.takeByte, h, State.record]

/-- A primitive the transport has not answered (R52). -/
theorem State.bus_unanswered {s : State} (h : s.outcomes = []) (a : Addr7) (d : Dir) (b : Byte) :
    s.busStart a d = none ∧ s.busRestart a d = none ∧ s.busWrite b = none := by
  simp [State.busStart, State.busRestart, State.busWrite, State.takeOutcome, h]

/-- A byte read the transport has not answered (R52). -/
theorem State.busRead_unanswered {s : State} (h : s.bytes = []) (a : Ack) : s.busRead a = none := by
  simp [State.busRead, State.takeByte, h]

/-- Everything an entry of a step list can do (R79): wait for the transport, issue its primitive, or finish. -/
theorem State.runEntry_cases (s : State) (c : Cmd) (i : Nat) (fin : State → Code × Word) (k : StepKind) :
    ((k = .start ∨ k = .rs ∨ ∃ x, k = .wr x) ∧ s.outcomes = [] ∧ s.runEntry c i fin k = s) ∨
    ((k = .rda ∨ k = .rdn) ∧ s.bytes = [] ∧ s.runEntry c i fin k = s) ∨
    (k = .start ∧ ∃ o rest, s.outcomes = o :: rest ∧
      s.runEntry c i fin k =
        ({ s with outcomes := rest, trace := s.trace ++ [BusEvent.start Config.devAddr .write o], busOpen := true }).follow c i o) ∨
    (∃ x, k = .wr x ∧ ∃ o rest, s.outcomes = o :: rest ∧
      s.runEntry c i fin k =
        ({ s with outcomes := rest, trace := s.trace ++ [BusEvent.write (x.value s) o] }).follow c i o) ∨
    (k = .rs ∧ ∃ o rest, s.outcomes = o :: rest ∧
      s.runEntry c i fin k =
        ({ s with outcomes := rest, trace := s.trace ++ [BusEvent.restart Config.devAddr .read o] }).follow c i o) ∨
    (k = .rda ∧ ∃ b rest, s.bytes = b :: rest ∧
      s.runEntry c i fin k =
        ({ s with bytes := rest, trace := s.trace ++ [BusEvent.read .ack b], b0 := b }).advance c i) ∨
    (k = .rdn ∧ ∃ b rest, s.bytes = b :: rest ∧
      s.runEntry c i fin k =
        ({ s with bytes := rest, trace := s.trace ++ [BusEvent.read .nack b], b1 := b }).advance c i) ∨
    (k = .stop ∧ s.runEntry c i fin k = s.busStop.advance c i) ∨
    (∃ T, k = .stopTo T ∧ s.runEntry c i fin k = (s.busStop.setTemp T s.count).advance c i) ∨
    (k = .fin ∧ s.runEntry c i fin k = s.finish c.loadsCfg (fin s).1 (fin s).2) := by
  cases k with
  | start =>
    cases h : s.outcomes with
    | nil => exact .inl ⟨.inl rfl, rfl, by simp [State.runEntry, (State.bus_unanswered h _ _ 0).1]⟩
    | cons o rest => exact .inr (.inr (.inl ⟨rfl, o, rest, rfl, by simp [State.runEntry, State.busStart_answered h]⟩))
  | wr x =>
    cases h : s.outcomes with
    | nil => exact .inl ⟨.inr (.inr ⟨x, rfl⟩), rfl, by simp [State.runEntry, (State.bus_unanswered h 0 .read _).2.2]⟩
    | cons o rest =>
      exact .inr (.inr (.inr (.inl ⟨x, rfl, o, rest, rfl, by simp [State.runEntry, State.busWrite_answered h]⟩)))
  | rs =>
    cases h : s.outcomes with
    | nil => exact .inl ⟨.inr (.inl rfl), rfl, by simp [State.runEntry, (State.bus_unanswered h _ _ 0).2.1]⟩
    | cons o rest =>
      exact .inr (.inr (.inr (.inr (.inl ⟨rfl, o, rest, rfl, by simp [State.runEntry, State.busRestart_answered h]⟩))))
  | rda =>
    cases h : s.bytes with
    | nil => exact .inr (.inl ⟨.inl rfl, rfl, by simp [State.runEntry, State.busRead_unanswered h]⟩)
    | cons b rest =>
      exact .inr (.inr (.inr (.inr (.inr (.inl ⟨rfl, b, rest, rfl, by simp [State.runEntry, State.busRead_answered h]⟩)))))
  | rdn =>
    cases h : s.bytes with
    | nil => exact .inr (.inl ⟨.inr rfl, rfl, by simp [State.runEntry, State.busRead_unanswered h]⟩)
    | cons b rest =>
      exact .inr (.inr (.inr (.inr (.inr (.inr (.inl
        ⟨rfl, b, rest, rfl, by simp [State.runEntry, State.busRead_answered h]⟩))))))
  | stop => exact .inr (.inr (.inr (.inr (.inr (.inr (.inr (.inl ⟨rfl, rfl⟩)))))))
  | stopTo T => exact .inr (.inr (.inr (.inr (.inr (.inr (.inr (.inr (.inl ⟨T, rfl, rfl⟩))))))))
  | fin => exact .inr (.inr (.inr (.inr (.inr (.inr (.inr (.inr (.inr ⟨rfl, rfl⟩))))))))

/-- An entry of a step list answers a next state exactly where the list has the entry (R80). -/
theorem State.runList_eq_next {s t : State} {c : Cmd} {steps : List StepKind} {fin : State → Code × Word} {i : Nat} :
    s.runList c steps fin i = .next t ↔ ∃ k, steps[i]? = some k ∧ t = s.runEntry c i fin k := by
  cases h : steps[i]? <;> simp [State.runList, h, eq_comm]

/-- Everything the transition of a command can do, where it answers a next state (R27, R28, R37, R109). -/
theorem State.perform_cases {s t : State} {c : Cmd} {w : Word} {steps : List StepKind} {fin : State → Code × Word}
    (h : s.perform c w steps fin = .next t) :
    (s.seq = .idle ∧ t = s.accept w) ∨
    (∃ i k, s.seq = .run c i ∧ steps[i]? = some k ∧ t = s.runEntry c i fin k) ∨
    (∃ c' i, s.seq = .run c' i ∧ c' ≠ c ∧ t = s.overrun) ∨
    (∃ j, s.seq = .abort j ∧ t = s.abortStep j) := by
  unfold State.perform at h
  split at h
  · next hs => cases h; exact .inl ⟨hs, rfl⟩
  · next c' i hs =>
    split at h
    · next hc =>
      obtain ⟨k, hk, rfl⟩ := State.runList_eq_next.1 h
      exact .inr (.inl ⟨i, k, by rw [hs, hc], hk, rfl⟩)
    · next hc => cases h; exact .inr (.inr (.inl ⟨c', i, hs, hc, rfl⟩))
  · next j hs => cases h; exact .inr (.inr (.inr ⟨j, hs, rfl⟩))

/-- The FINISH function of each command (R81 item 1). -/
def finOf : Cmd → State → Code × Word
  | .chkp => chkpFin
  | .setcfg => setcfgFin
  | .rdch => rdchFin
  | .cct => fun t => cctFin t.tmpR t.tmpG t.tmpB
  | .lux => fun t => luxFin t.tmpG t.cfgCache
  | .trig => trigFin
  | .illegal => illegalFin

/-- Every meaning is the shared transition over its own command, word, step list and FINISH function. -/
theorem exec_eq_perform (ins : Instr) (s : State) :
    exec ins s = s.perform (cmdOf ins) (encode ins) (stepsOf (cmdOf ins)) (finOf (cmdOf ins)) := by
  cases ins <;> rfl

/-- The instruction in flight is the one SEQ names (R36). -/
theorem State.inFlight_seq {s : State} {ins : Instr} (h : s.inFlight = some ins) :
    ∃ i, s.seq = .run (cmdOf ins) i := by
  unfold State.inFlight at h
  split at h <;> first | (cases h; done) | (cases h; exact ⟨_, by assumption⟩)

/-- The sequencer's turn, by SEQ alone (R37). -/
theorem State.sequencerTurn_eq (s : State) :
    s.sequencerTurn =
      match s.seq with
      | .idle => .next s
      | .run c i => s.runList c (stepsOf c) (finOf c) i
      | .abort j => .next (s.abortStep j) := by
  unfold State.sequencerTurn State.inFlight
  rcases hs : s.seq with _ | ⟨c, i⟩ | j
  · simp
  · cases c <;> simp [exec_eq_perform, State.perform, hs, cmdOf, State.runIllegal, stepsOf, finOf]
  · simp

/-- Everything a step can do, where it answers a next state: the host's turn takes its event off the list. -/
theorem step_cases {s t : State} (h : step s = .next t) :
    (s.host = [] ∧ s.sequencerTurn = .next t) ∨
    (∃ rest, s.host = .turn :: rest ∧ { s with host := rest }.sequencerTurn = .next t) ∨
    (∃ offset width r rest, s.host = .read offset width :: rest ∧ hostTarget offset width = some r ∧
      t = { s with host := rest }.hostRead r) ∨
    (∃ offset width r w rest, s.host = .write offset width w :: rest ∧ hostTarget offset width = some r ∧
      { s with host := rest }.hostWrite r w = .next t) ∨
    (∃ rest, s.host = .reset :: rest ∧ t = { s with host := rest }.resetInput) := by
  unfold step at h
  split at h
  · next hs => exact .inl ⟨hs, h⟩
  · next e rest hs =>
    cases e with
    | turn => exact .inr (.inl ⟨rest, hs, h⟩)
    | read offset width =>
      simp only [State.hostTurn] at h
      split at h
      · next r hr => cases h; exact .inr (.inr (.inl ⟨offset, width, r, rest, hs, hr, rfl⟩))
      · cases h
    | write offset width w =>
      simp only [State.hostTurn] at h
      split at h
      · next r hr => exact .inr (.inr (.inr (.inl ⟨offset, width, r, w, rest, hs, hr, h⟩)))
      · cases h
    | reset => cases h; exact .inr (.inr (.inr (.inr ⟨rest, hs, rfl⟩)))

/-- A write to CMD, where it answers a next state: the overrun of R28, or the first transition of R27. -/
theorem State.writeCmd_cases {s t : State} {w : Word} (h : s.writeCmd w = .next t) :
    (s.busy = true ∧ t = s.overrun) ∨
    (s.busy = false ∧ ∃ ins, decode w = .ok ins ∧ exec ins s = .next t) ∨
    (s.busy = false ∧ ∃ e, decode w = .error e ∧ t = s.accept w) := by
  unfold State.writeCmd at h
  split at h
  · next hb => cases h; exact .inl ⟨hb, rfl⟩
  · next hb =>
    have hb : s.busy = false := by simpa using hb
    split at h
    · next ins hd => exact .inr (.inl ⟨hb, ins, hd, h⟩)
    · next e hd => cases h; exact .inr (.inr ⟨hb, e, hd, rfl⟩)

/-- The latched word after an accept is the accepted word (R27, R38). -/
@[simp] theorem State.latchedWord_accept (s : State) (w : Word) : (s.accept w).latchedWord = w :=
  Laws.wordOf_fields w

end Sys2Proof.Machine
end

