-- ==== Sys2Proof/Tests/Slice0.lean ====
section
/-! SUPPORT. The model's own tests. Expected values come from 95_test_vectors.md (S, V and P entries) or from the rule named; each
test is one step or one function. The second part shows, for each statement with hypotheses, states that meet them. -/

namespace Sys2Proof.Tests

open Sys2Proof.Machine

/-- The outcome is a next state that passes a check. -/
def nextMeets (o : Outcome) (p : State → Bool) : Bool :=
  match o with
  | .next t => p t
  | .fault _ => false
  | .refused _ => false

/-- The reset state with one host write of w to CMD coming, and the answers of a transport. -/
def commanded (w : Word) (outcomes : List BusOutcome) (bytes : List Byte) : State :=
  { State.reset with host := [.write 0x0 4 w], outcomes := outcomes, bytes := bytes }

/-- A VSC at entry i of a command's list. -/
def running (c : Cmd) (i : Nat) : State := { State.reset with busy := true, seq := .run c i }

/-! ## Well-formedness, decoding, encoding -/

/-- R72 check 5: the ill-formed term of the one check, below and above the four codes, and the codes at its bounds. -/
theorem test_wellFormed_refuses :
    (Instr.rdch 0x07).wellFormed = false ∧ (Instr.rdch 0x0C).wellFormed = false ∧ (Instr.rdch 0x00).wellFormed = false ∧
    (Instr.rdch 0x08).wellFormed = true ∧ (Instr.rdch 0x0B).wellFormed = true ∧ (Instr.setcfg 0xFF).wellFormed = true := by
  decide

/-- R71: every constructor's word, written out field by field (HI, ARG, RSV, OP). -/
theorem test_decode_every_constructor :
    decode 0b0000000000000000_00000000_0000_0001#32 = .ok .chkp ∧
    decode 0b0000000000000000_11111111_0000_0010#32 = .ok (.setcfg 0xFF) ∧
    decode 0b0000000000000000_00001001_0000_0011#32 = .ok (.rdch 0x09) ∧
    decode 0b0000000000000000_00000000_0000_0100#32 = .ok .cct ∧
    decode 0b0000000000000000_00000000_0000_0101#32 = .ok .lux ∧
    decode 0b0000000000000000_00000000_0000_0110#32 = .ok .trig := by
  decide

/-- 95 V1: the illegal words, each refused by the name of its first failing check. -/
theorem test_decode_illegal_words :
    decode 0x00000000 = .error (.reservedOpcode 0) ∧ decode 0x00000101 = .error (.strayArgument 1) ∧
    decode 0x00000012 = .error .reservedNotZero ∧ decode 0x00010002 = .error .highHalfNotZero ∧
    decode 0x00000003 = .error (.noSuchChannel 0) ∧ decode 0x00000703 = .error (.noSuchChannel 7) ∧
    decode 0x00000C03 = .error (.noSuchChannel 0x0C) ∧ decode 0x00004406 = .error (.strayArgument 0x44) ∧
    decode 0x00000007 = .error (.reservedOpcode 7) ∧ decode 0x0000000F = .error (.reservedOpcode 15) ∧
    decode 0x80000005 = .error .highHalfNotZero ∧ decode 0xFFFFFFFF = .error .highHalfNotZero := by
  decide

/-- R71, R77, R78: words of the encoder, and the opcode table's view of the decoder. -/
theorem test_encode_words :
    encode (.setcfg 0x44) = 0x00004402 ∧ encode (.rdch 0x0B) = 0x00000B03 ∧ encode .trig = 0x00000006 ∧
    decodeTableWord 32 0x00002202 = some (.setcfg 0x22) ∧ decodeTableWord 32 0x00000C03 = none := by
  decide

/-! ## One step of each command -/

/-- R83, 95 V3: CHKP's START that answers FAIL, and its FINISH. -/
theorem test_chkp_start_fail :
    nextMeets (exec .chkp { running .chkp 0 with outcomes := [.fail] })
      (fun t => t.seq = .abort 0 ∧ t.busOpen ∧ t.trace = [.start 0x10 .write .fail]) = true := by
  decide

theorem test_chkp_finish :
    nextMeets (exec .chkp { running .chkp 2 with ovr := true }) (fun t => t.statusWord = 0x06 ∧ t.result = 0) = true := by
  decide

/-- R85, 95 S2: SETCFG sends the latched V and then caches it. -/
theorem test_setcfg_payload :
    nextMeets (exec (.setcfg 0x44) { running .setcfg 2 with v := 0x44, outcomes := [.ok] })
      (fun t => t.trace = [.write 0x44 .ok] ∧ t.seq = .run .setcfg 3 ∧ t.cfgCache = 0x00) = true := by
  decide

theorem test_setcfg_finish :
    nextMeets (exec (.setcfg 0x44) { running .setcfg 4 with v := 0x44 })
      (fun t => t.cfgCache = 0x44 ∧ t.statusWord = 0x02) = true := by
  decide

/-- R87, 95 S1: bytes 0x34 then 0x12 give 0x1234; the restart turns the direction. -/
theorem test_rdch_finish :
    nextMeets (exec (.rdch 0x09) { running .rdch 6 with b0 := 0x34, b1 := 0x12 })
      (fun t => t.result = 0x00001234 ∧ t.statusWord = 0x02) = true := by
  decide

theorem test_rdch_restart :
    nextMeets (exec (.rdch 0x09) { running .rdch 2 with arg := 0x09, outcomes := [.ok] })
      (fun t => t.trace = [.restart 0x10 .read .ok] ∧ t.seq = .run .rdch 3) = true := by
  decide

/-- R89, 95 V6: TRIG forms 0x46 from 0x42 at accept, and 0x04 from 0x00 in auto mode. -/
theorem test_trig_accept :
    nextMeets (exec .trig { State.reset with cfgCache := 0x42 }) (fun t => t.v = 0x46 ∧ t.cfgCache = 0x42) = true ∧
    nextMeets (exec .trig State.reset) (fun t => t.v = 0x04 ∧ t.busy ∧ t.op = 6) = true := by
  decide

/-- R92, 95 V7: LUX at 640 ms with 1000 counts, and the sentinel at an unmapped time. -/
theorem test_lux_finish :
    nextMeets (exec .lux { running .lux 6 with cfgCache := 0xCA, tmpG := 1000 })
      (fun t => t.result = 0x00300110 ∧ t.statusWord = 0x02) = true ∧
    nextMeets (exec .lux { running .lux 6 with cfgCache := 0xF4, tmpG := 1000 })
      (fun t => t.result = 0xFFFFFFFF ∧ t.statusWord = 0x32) = true := by
  decide

/-- 95 V7: the largest product, and one count at the smallest gain. -/
theorem test_lux_extremes :
    luxFin 0xFFFF 0x00 = (.ok, 0xC49F3B60) ∧ luxFin 1 0x50 = (.ok, 0x00000625) ∧ luxFin 0xFFFF 0x50 = (.ok, 0x0624F9DB) := by
  decide

/-- R100, 95 S6 and V8: CCT's FINISH, with the value the spec pins; V8's DIV_FAULT over CCT_DOMAIN. -/
theorem test_cct_finish :
    nextMeets (exec .cct { running .cct 18 with tmpR := 300, tmpG := 200, tmpB := 100 })
      (fun t => t.result = 0x00000A16 ∧ t.statusWord = 0x02) = true ∧
    nextMeets (exec .cct { running .cct 18 with tmpR := 5, tmpG := 0, tmpB := 100 })
      (fun t => t.result = 0 ∧ t.statusWord = 0x22) = true := by
  decide +kernel

/-- 95 V8: exact values, R below B, saturation at both sides, and the domain fault at p = 0. -/
theorem test_cct_vectors :
    cctFin 100 100 100 = (.ok, 10144) ∧ cctFin 150 100 100 = (.ok, 4278) ∧ cctFin 250 200 100 = (.ok, 3240) ∧
    cctFin 0 1000 250 = (.ok, 24052) ∧ cctFin 65535 80 0 = (.ok, 1) ∧ cctFin 65535 79 0 = (.ok, 0) ∧
    cctFin 0 32933 16466 = (.ok, 4294813635) ∧ cctFin 0 32935 16467 = (.ok, 0xFFFFFFFF) ∧
    cctFin 0 32934 16467 = (.cctDomain, 0) ∧ cctExact 1 131070 = 10119336696 := by
  decide +kernel

/-! ## The step, the host interface, the host's duties -/

/-- The fetch of the opcode table: the very next step accepts the word, and an illegal one as ILLEGAL (R27). -/
theorem test_step_runs_fetched_word :
    nextMeets (step (State.reset.withFetchWord 32 0x00004402)) (fun t => t.seq = .run .setcfg 0 ∧ t.v = 0x44) = true ∧
    nextMeets (step (State.reset.withFetchWord 32 0x00000C03)) (fun t => t.seq = .run .illegal 0 ∧ t.arg = 0x0C) = true := by
  decide

/-- 95 V2 row 3: a write while busy sets OVR alone. -/
theorem test_step_overrun :
    nextMeets (step { running .chkp 1 with host := [.write 0x0 4 0x00000005] })
      (fun t => t = { running .chkp 1 with ovr := true }) = true := by
  decide

/-- 95 V2 rows 1 and 7: the reads, one of them of CFG. -/
theorem test_step_reads_cfg :
    nextMeets (step { State.reset with cfgCache := 0x46, host := [.read 0xC 4] }) (fun t => t.reads = [0x00000046]) = true := by
  decide

/-- R77, R78: the pseudo-commands, a field line, and the assembler's refusal. -/
theorem test_assembler :
    HostCmd.assemble .rdw = some 0x00000B03 ∧
    HostCmd.assemble (.setcfgFields { it := .ms640, trig := true }) = some 0x00004402 ∧
    HostCmd.assemble (.setcfgFields { it := .ms160, force := true }) = some 0x00002202 ∧
    HostCmd.assemble (.rdch 0x0C) = none := by
  decide

/-- R113: the first turn of a host that runs CHKP writes the command. -/
theorem test_host_turn_writes :
    (match HostProc.turn [.issue .chkp] {} State.reset with
      | .next (h, t) => h.polling && t.busy
      | .fault _ => false
      | .refused _ => false) = true := by
  decide

/-- R53, R59: the wire address bytes and the byte order of a byte-addressed platform. -/
theorem test_byte_orders :
    wireAddress Config.devAddr .write = 0x20 ∧ wireAddress Config.devAddr .read = 0x21 ∧
    hostBytes 0x01020304 = [0x04, 0x03, 0x02, 0x01] := by
  decide

/-! ## States that meet the hypotheses of the statements -/

theorem witness_decode : (∃ i : Instr, i.wellFormed = true) ∧ ∃ (w : Word) (i : Instr), decode w = .ok i :=
  ⟨⟨.rdch 0x0B, by decide⟩, 0x00000B03, .rdch 0x0B, by decide⟩

/-- A word for each clause of the decode checks, at a bound of its range. -/
theorem witness_DecodeChecksInOrder :
    (0x00010002#32).extractLsb' 16 16 ≠ 0 ∧
    ((0x00000012#32).extractLsb' 16 16 = 0 ∧ (0x00000012#32).extractLsb' 4 4 ≠ 0) ∧
    ((0x00000007#32).extractLsb' 16 16 = 0 ∧ (0x00000007#32).extractLsb' 4 4 = 0 ∧
      7 ≤ ((0x00000007#32).extractLsb' 0 4).toNat) ∧
    ((0x00000101#32).extractLsb' 0 4 = 1 ∧ (0x00000101#32).extractLsb' 8 8 ≠ 0) ∧
    ((0x00000C03#32).extractLsb' 0 4 = 3 ∧ 11 < ((0x00000C03#32).extractLsb' 8 8).toNat) ∧
    ((0x00000703#32).extractLsb' 0 4 = 3 ∧ ((0x00000703#32).extractLsb' 8 8).toNat < 8) := by
  decide

theorem witness_AssemblerWords :
    (8 ≤ (0x08 : Byte).toNat ∧ (0x0B : Byte).toNat ≤ 11) ∧ (0x07 : Byte).toNat < 8 ∧ 11 < (0x0C : Byte).toNat := by
  decide

theorem witness_StepRunsDecodedCommand :
    ((commanded 0x00000005 [] []).host = [.write 0x0 4 0x00000005] ∧ (commanded 0x00000005 [] []).busy = false ∧
      decode 0x00000005 = .ok .lux) ∧
    ((running .cct 18).inFlight = some .cct ∧ (running .cct 18).host = []) ∧
    ({ running .trig 0 with host := [.turn] } : State).inFlight = some .trig := by
  decide

/-- For the accept: a legal word and an illegal one. -/
theorem witness_AcceptLatchesTheWord :
    (commanded 0x00000006 [] []).Ready ∧ (commanded 0x00000006 [] []).host = [.write 0x0 4 0x00000006] ∧
    (commanded 0xFFFFFFFF [] []).Ready ∧ (commanded 0xFFFFFFFF [] []).host = [.write 0x0 4 0xFFFFFFFF] :=
  ⟨⟨rfl, rfl⟩, rfl, ⟨rfl, rfl⟩, rfl⟩

theorem witness_CommandIsAcceptedAtIdle : (Instr.setcfg 0xFF).wellFormed = true ∧ State.reset.seq = .idle := by decide

theorem witness_BusyWriteOnlySetsOverrun :
    ({ running .lux 0 with host := [.write 0x0 4 0xFFFFFFFF] } : State).busy = true := by
  decide

theorem witness_HostReads :
    ({ State.reset with host := [.read 0x0 4] } : State).host = [.read 0x0 4] ∧
    ({ State.reset with host := [.read 0x4 4] } : State).host = [.read 0x4 4] ∧
    ({ State.reset with host := [.read 0x8 4] } : State).host = [.read 0x8 4] ∧
    ({ State.reset with host := [.read 0xC 4] } : State).host = [.read 0xC 4] :=
  ⟨rfl, rfl, rfl, rfl⟩

theorem witness_WritesToReadOnlyRegistersIgnored :
    ({ State.reset with host := [.write 0xC 4 7] } : State).host = .write 0xC 4 7 :: [] := by
  decide

/-- A stray access of each kind: another width, an unaligned offset, an offset above 0xC. -/
theorem witness_OtherHostAccessesAreRefused :
    ({ State.reset with host := [.read 0x4 1] } : State).host = [.read 0x4 1] ∧ (1 ≠ 4 ∨ 0x4 % 4 ≠ 0 ∨ 0xC < 0x4) ∧
    ({ State.reset with host := [.write 0x6 4 0] } : State).host = [.write 0x6 4 0] ∧ (4 ≠ 4 ∨ 0x6 % 4 ≠ 0 ∨ 0xC < 0x6) ∧
    ({ State.reset with host := [.read 0x10 4] } : State).host = [.read 0x10 4] ∧ (4 ≠ 4 ∨ 0x10 % 4 ≠ 0 ∨ 0xC < 0x10) := by
  decide

theorem witness_ResetInputAbandonsTheCommand :
    ({ running .setcfg 2 with busOpen := true, host := [.reset] } : State).host = .reset :: [] := by
  decide

theorem witness_IdleWaitsForTheHost : State.reset.seq = .idle ∧ State.reset.host = [] := by decide

/-- Either bit of the port at a START, a WR and an RS. -/
theorem witness_PortBitDecidesTheNextPosition :
    nextMeets (exec .chkp { running .chkp 0 with outcomes := [BusOutcome.ofBit 1] }) (fun t => t.seq = .abort 0) = true ∧
    nextMeets (exec .trig { running .trig 2 with outcomes := [BusOutcome.ofBit 0] }) (fun t => t.seq = .run .trig 3) = true ∧
    nextMeets (exec .lux { running .lux 2 with outcomes := [BusOutcome.ofBit 1] }) (fun t => t.seq = .abort 0) = true ∧
    (running .chkp 0).inFlight = some .chkp ∧ (stepsOf .chkp)[0]? = some .start ∧
    (running .trig 2).inFlight = some .trig ∧ (stepsOf .trig)[2]? = some (.wr .v) ∧
    (running .lux 2).inFlight = some .lux ∧ (stepsOf .lux)[2]? = some .rs := by
  decide

/-- The three requests with an outcome, each with an answer coming. -/
theorem witness_FailableStepsFollowTheAnswer :
    (running .cct 12).inFlight = some .cct ∧ (stepsOf .cct)[12]? = some .start ∧
    (running .trig 2).inFlight = some .trig ∧ (stepsOf .trig)[2]? = some (.wr .v) ∧
    (running .rdch 2).inFlight = some (.rdch 0) ∧ (stepsOf .rdch)[2]? = some .rs ∧
    ({ running .chkp 0 with outcomes := [.fail] } : State).outcomes = .fail :: [] := by
  decide

theorem witness_ReadAndStopStepsNeverFail :
    (running .lux 3).inFlight = some .lux ∧ (stepsOf .lux)[3]? = some .rda ∧ (stepsOf .lux)[4]? = some .rdn ∧
    (stepsOf .lux)[5]? = some (.stopTo .green) ∧ (stepsOf .chkp)[1]? = some .stop ∧ (running .chkp 1).inFlight = some .chkp ∧
    ({ running .lux 3 with bytes := [0xFF] } : State).bytes = 0xFF :: [] := by
  decide

theorem witness_SilentTransportHoldsTheSequencer :
    (running .chkp 0).host = [] ∧ (stepsOf .chkp)[0]? = some .start ∧ (running .chkp 0).outcomes = [] ∧
    (stepsOf .rdch)[4]? = some .rdn ∧ (running .rdch 4).bytes = [] := by
  decide

theorem witness_AbortPath :
    ({ running .chkp 0 with seq := .abort 0 } : State).seq = .abort 0 ∧
    ({ running .chkp 0 with seq := .abort 1 } : State).seq = .abort 1 ∧ (running .chkp 0).host = [] := by
  decide

theorem witness_finishes :
    (running .chkp 2).seq = .run .chkp 2 ∧ (running .setcfg 4).seq = .run .setcfg 4 ∧ (running .rdch 6).seq = .run .rdch 6 ∧
    (running .trig 4).seq = .run .trig 4 := by
  decide

/-- LUX at the last mapped time and the first unmapped one. -/
theorem witness_LuxFinishes :
    (({ running .lux 6 with cfgCache := 0x50 } : State).cfgCache.extractLsb' 4 3).toNat ≤ 5 ∧
    5 < (({ running .lux 6 with cfgCache := 0x60 } : State).cfgCache.extractLsb' 4 3).toNat := by
  decide

/-- CCT with Green 0, with p = 0, and with p = 1. -/
theorem witness_CctFinishes :
    (running .cct 18).tmpG = 0 ∧ (running .cct 18).seq = .run .cct 18 ∧
    ((2 : Half) ≠ 0 ∧ cctP 0 2 1 ≤ 0) ∧ ((1 : Half) ≠ 0 ∧ 0 < cctP 0 1 0) := by
  decide

theorem witness_CctSaturatesOnlyAtPOne : 0 < 1 ∧ 0 < 32934 ∧ 32934 ≤ 65535 := by decide

/-- Two triples of ratio 3/2 of which neither is a multiple of the other, two of ratio 0, and scaled triples, Green 0 among them. -/
theorem witness_CctDependsOnlyOnRatio :
    ((200 : Half) ≠ 0 ∧ (300 : Half) ≠ 0 ∧ cctP 300 200 100 = 600 ∧ cctP 300 300 0 = 900 ∧
      cctP 300 200 100 * (2 * 300) = cctP 300 300 0 * (2 * 200)) ∧
    (cctP 0 2 1 = 0 ∧ cctP 1 4 3 = 0) ∧
    ((0 : Half).toNat = 3 * (0 : Half).toNat ∧ (15 : Half).toNat = 3 * (5 : Half).toNat) ∧
    (600 : Half).toNat = 2 * (300 : Half).toNat ∧ (400 : Half).toNat = 2 * (200 : Half).toNat ∧
    (200 : Half).toNat = 2 * (100 : Half).toNat := by
  decide

theorem witness_IllegalWord :
    (commanded 0x00000007 [] []).Ready ∧ decode 0x00000007 = .error (.reservedOpcode 7) :=
  ⟨⟨rfl, rfl⟩, by decide⟩

/-- Ready states with each word, and with the answers of the first and the last row of its table. -/
theorem witness_traces :
    (commanded 0x00000001 [.fail] []).Ready ∧ (commanded 0x0000FF02 [.fail] []).Ready ∧
    (commanded 0x00000006 [.ok, .ok, .ok] []).Ready ∧ (commanded 0x00000B03 [.ok, .ok, .ok] [0xFF, 0x0F]).Ready ∧
    (commanded 0x00000005 [.ok, .ok, .fail] []).Ready ∧
    (0x0000#16 ++ 0xFF#8 ++ 0x02#8 : Word) = 0x0000FF02 ∧ (0x0000#16 ++ 0x0B#8 ++ 0x03#8 : Word) = 0x00000B03 :=
  ⟨⟨rfl, rfl⟩, ⟨rfl, rfl⟩, ⟨rfl, rfl⟩, ⟨rfl, rfl⟩, ⟨rfl, rfl⟩, by decide, by decide⟩

theorem witness_CctTraces :
    (commanded 0x00000004 (List.replicate 9 .ok) [0x2C, 0x01, 0xC8, 0x00, 0x64, 0x00]).Ready ∧
    (commanded 0x00000004 (List.replicate 8 .ok ++ [.fail]) [1, 2, 3, 4, 5, 6]).outcomes = List.replicate 8 .ok ++ .fail :: [] :=
  ⟨⟨rfl, rfl⟩, rfl⟩

/-- A next state of a FINISH, of an abort step and of another step, for the frames. -/
theorem witness_frames :
    nextMeets (exec .trig { running .trig 4 with v := 0x46 }) (fun t => t.cfgCache = 0x46) = true ∧
    nextMeets (exec .lux { running .lux 0 with seq := .abort 1 }) (fun t => t.code = .busError) = true ∧
    nextMeets (exec (.rdch 0x08) { running .rdch 3 with bytes := [9] }) (fun t => t.b0 = 9) = true ∧
    nextMeets (exec .cct { running .cct 5 with b1 := 1 }) (fun t => t.tmpR = 0x0100) = true ∧
    nextMeets (step { State.reset with cfgCache := 0x46, host := [.reset] }) (fun t => t.cfgCache = 0x00) = true := by
  decide

/-- A SETCFG in its transaction, after its START. -/
def midSetcfg : State :=
  { State.reset with
    busy := true
    seq := .run .setcfg 1
    op := 2
    arg := 0x44
    v := 0x44
    busOpen := true
    trace := [.start 0x10 .write .ok]
    outcomes := List.replicate 9 .ok
    bytes := List.replicate 6 0 }

/-- The control invariant, the discipline and RESULT beside its CODE hold of a state in mid-command. -/
theorem witness_invariants :
    midSetcfg.Inv ∧ midSetcfg.Disciplined ∧ midSetcfg.ResultMatchesCode ∧ nextMeets (step midSetcfg) (fun _ => true) = true := by
  refine ⟨⟨?_, ?_, ?_, ?_, ?_⟩, ?_, ?_, by decide⟩
  · simp [State.BusyMatchesSeq, midSetcfg]
  · simp [Sequenced, midSetcfg, stepsOf, setcfgSteps]
  · simp [State.BusOpenMatchesSeq, midSetcfg, owesStop, stepsOf, setcfgSteps, openAfter]
  · exact ⟨by decide, by decide, by decide⟩
  · exact ⟨by decide, by decide⟩
  · intro _; decide
  · exact ⟨by decide, by decide⟩

/-- The premises of the 19 steps. -/
theorem witness_CommandEnds :
    midSetcfg.busy = true ∧ midSetcfg.host = [] ∧ 9 ≤ midSetcfg.outcomes.length ∧ 6 ≤ midSetcfg.bytes.length := by
  decide

/-- One failed attempt and a successful one. -/
theorem witness_FailedAttempts :
    ∃ m t, failedAttempts (encode (.setcfg 0x40)) 1 (commanded 0 [.fail, .ok, .ok, .ok] []) m ∧
      issue (encode (.setcfg 0x40)) m = .next t ∧ t.busy = false ∧ t.code = .ok :=
  ⟨_, _, ⟨_, rfl, rfl, rfl, rfl⟩, rfl, rfl, rfl⟩

/-- A poll bounded by three with the answers of 95 P1, and one that is never answered OK. -/
theorem witness_BoundedPresencePoll :
    State.reset.Ready ∧ max 3 1 ≤ [BusOutcome.fail, .fail, .ok].length ∧
    [BusOutcome.fail, .fail, .ok].findIdx (fun o => o == .ok) = 2 ∧
    max 3 1 ≤ [BusOutcome.fail, .fail, .fail].findIdx (fun o => o == .ok) :=
  ⟨⟨rfl, rfl⟩, by decide, by decide, by decide⟩

end Sys2Proof.Tests
end

/-! ## One entry of a step list, where the transport answers it -/

namespace Sys2Proof.Machine

/-- A command at RUN(op, i) takes entry i of its own step list (R36, R37, R80). -/
theorem exec_at_entry {ins : Instr} {s : State} {i : Nat} {k : StepKind}
    (hseq : s.seq = .run (cmdOf ins) i) (hk : (stepsOf (cmdOf ins))[i]? = some k) :
    exec ins s = .next (s.runEntry (cmdOf ins) i (finOf (cmdOf ins)) k) := by
  simp [exec_eq_perform, State.perform, hseq, State.runList, hk]

/-- Following an outcome changes SEQ and no other field (R79). -/
theorem State.follow_eq_with_seq (s : State) (c : Cmd) (i : Nat) (o : BusOutcome) :
    s.follow c i o = { s with seq := match o with | .ok => .run c (i + 1) | .fail => .abort 0 } := by
  cases o <;> rfl

section Answered

variable {s : State} {o : BusOutcome} {rest : List BusOutcome} (h : s.outcomes = o :: rest)
  (c : Cmd) (i : Nat) (fin : State → Code × Word)
include h

/-- START, answered (R46, R79). -/
theorem State.runEntry_start_answered :
    s.runEntry c i fin .start =
      { s with
        outcomes := rest, trace := s.trace ++ [BusEvent.start Config.devAddr .write o], busOpen := true }.follow c i o := by
  simp only [State.runEntry, State.busStart_answered h]

/-- WR, answered (R48, R79). -/
theorem State.runEntry_wr_answered (x : WrSource) :
    s.runEntry c i fin (.wr x) =
      { s with outcomes := rest, trace := s.trace ++ [BusEvent.write (x.value s) o] }.follow c i o := by
  simp only [State.runEntry, State.busWrite_answered h]

/-- RS, answered (R47, R79). -/
theorem State.runEntry_rs_answered :
    s.runEntry c i fin .rs =
      { s with outcomes := rest, trace := s.trace ++ [BusEvent.restart Config.devAddr .read o] }.follow c i o := by
  simp only [State.runEntry, State.busRestart_answered h]

end Answered

/-- Settles O19: each command at an entry runs that entry of its list, and an answered START, WR or RS issues its primitive
and then changes SEQ alone. -/
theorem failableStepsFollowTheAnswer : Obligations.FailableStepsFollowTheAnswer := by
  unfold Obligations.FailableStepsFollowTheAnswer
  intro s ins i o rest _ hseq ho
  refine ⟨fun hstart => ?start, fun x hwr => ?wr, fun hrs => ?rs⟩
  case start =>
    rw [exec_at_entry hseq hstart, State.runEntry_start_answered ho]
    exact congrArg _ (State.follow_eq_with_seq ..)
  case wr =>
    rw [exec_at_entry hseq hwr, State.runEntry_wr_answered ho]
    exact congrArg _ (State.follow_eq_with_seq ..)
  case rs =>
    rw [exec_at_entry hseq hrs, State.runEntry_rs_answered ho]
    exact congrArg _ (State.follow_eq_with_seq ..)

end Sys2Proof.Machine

/-! ## Words and their commands: what the decode check and the encoder say of each other -/

namespace Sys2Proof.Machine

/-- Checks 3 to 5 of R72 accept only a command with the opcode and the argument it was read from. -/
theorem fields_of_decodeOp_eq_ok {op : Nibble} {arg : Byte} {i : Instr} (h : decodeOp op arg = .ok i) :
    i.opcode = op ∧ i.argument = arg := by
  have hop (n : Nibble) (hn : op.toNat = n.toNat) : n = op := (BitVec.eq_of_toNat_eq hn).symm
  unfold decodeOp withoutArg at h
  split at h
  case h_2 hn => cases h; exact ⟨hop _ hn, rfl⟩
  case h_7 => cases h
  all_goals
    next hn =>
      split at h
      · cases h; exact ⟨hop _ hn, by simp_all [Instr.argument]⟩
      · cases h

/-- A word that passes the decode check has the fields of the instruction's own encoding (R69, R72). -/
theorem fields_of_decode_eq_ok {w : Word} {i : Instr} (h : decode w = .ok i) :
    wordHi w = 0 ∧ wordRsv w = 0 ∧ i.opcode = wordOp w ∧ i.argument = wordArg w := by
  unfold decode at h
  split at h
  · cases h
  · next hhi =>
    split at h
    · cases h
    · next hrsv => exact ⟨not_not.1 hhi, not_not.1 hrsv, fields_of_decodeOp_eq_ok h⟩

/-- A word that passes the decode check is the word of the instruction read from it (R71, R72). -/
theorem encode_of_decode_eq_ok {w : Word} {i : Instr} (h : decode w = .ok i) : encode i = w := by
  obtain ⟨hhi, hrsv, hop, harg⟩ := fields_of_decode_eq_ok h
  calc encode i = wordOf (wordHi w) (wordArg w) (wordRsv w) (wordOp w) := by rw [encode, hop, harg, hhi, hrsv]
    _ = w := Laws.wordOf_fields w

/-- A well-formed command is read back from its own word (R71, R74). -/
theorem decode_encode_of_wellFormed {i : Instr} (h : i.wellFormed = true) : decode (encode i) = .ok i := by
  obtain ⟨hhi, hrsv, harg, hop⟩ := Laws.encodingFields_of i
  have hdecode : decode (encode i) = decodeOp i.opcode i.argument := by simp [decode, hhi, hrsv, hop, harg]
  rw [hdecode]
  cases i with
  | rdch code => simpa [decodeOp, Instr.opcode, Instr.argument, Instr.wellFormed] using h
  | _ => rfl

/-- The command that a word starts is the instruction's where the decode check passes (R27). -/
theorem classify_of_decode_eq_ok {w : Word} {i : Instr} (h : decode w = .ok i) : classify w = cmdOf i := by
  simp [classify, h]

/-- A word that fails the decode check starts ILLEGAL (R72). -/
theorem classify_of_decode_eq_error {w : Word} {e : DecodeError} (h : decode w = .error e) :
    classify w = .illegal := by
  simp [classify, h]

/-- Only words with OP 0x2 start a SETCFG, and only words with OP 0x6 a TRIG (R71). -/
theorem wordOp_of_classify (w : Word) :
    (classify w = .setcfg → wordOp w = 2) ∧ (classify w = .trig → wordOp w = 6) := by
  cases hdecode : decode w with
  | error e => simp [classify_of_decode_eq_error hdecode]
  | ok i =>
    obtain ⟨-, -, hop, -⟩ := fields_of_decode_eq_ok hdecode
    rw [classify_of_decode_eq_ok hdecode, ← hop]
    cases i <;> simp [cmdOf, Instr.opcode]

end Sys2Proof.Machine

/-! ## The step lists: where each kind of entry stands -/

namespace Sys2Proof.Machine

/-- The entries that ask the transport for an outcome, and so may fail: START, WR and RS (R79). -/
def StepKind.takesOutcome : StepKind → Bool
  | .start | .wr _ | .rs => true
  | .rda | .rdn | .stop | .stopTo _ | .fin => false

/-- The entries that ask the transport for a byte: RDA and RDN (R79). -/
def StepKind.takesByte : StepKind → Bool
  | .rda | .rdn => true
  | .start | .wr _ | .rs | .stop | .stopTo _ | .fin => false

/-- The entries that stand inside a transaction: all but START and FIN (R82). -/
def StepKind.insideTransaction : StepKind → Bool
  | .start | .fin => false
  | .wr _ | .rs | .rda | .rdn | .stop | .stopTo _ => true

/-- Every step list is well bracketed: the VSC owes a stop at an entry exactly where the entry stands inside a transaction
(R80, R82). -/
theorem owesStop_at_entry {c : Cmd} {i : Nat} {k : StepKind} (hk : (stepsOf c)[i]? = some k) :
    owesStop (.run c i) = k.insideTransaction := by
  have hlists : ∀ c : Cmd, ∀ i : Fin (stepsOf c).length,
      owesStop (.run c i) = (stepsOf c)[i].insideTransaction := by
    intro c; cases c <;> decide
  obtain ⟨hi, rfl⟩ := List.getElem?_eq_some_iff.1 hk
  exact hlists c ⟨i, hi⟩

/-- An entry that may fail leaves the transaction open, so that a FAIL owes a stop (R79, R109). -/
theorem openAfter_of_takesOutcome {k : StepKind} (hfail : k.takesOutcome = true) :
    openAfter k.insideTransaction k = true := by
  cases k with
  | start | wr | rs => rfl
  | rda | rdn | stop | stopTo | fin => cases hfail

/-- Past an entry the VSC owes what the entry leaves open (R79). -/
theorem owesStop_after_entry {c : Cmd} {i : Nat} {k : StepKind} (hk : (stepsOf c)[i]? = some k) :
    owesStop (.run c (i + 1)) = openAfter (owesStop (.run c i)) k := by
  simp [owesStop, List.take_add_one, hk]

/-- FIN is the last entry of every list, so another entry has a next one (R80). -/
theorem next_entry_of_ne_fin {c : Cmd} {i : Nat} {k : StepKind} (hk : (stepsOf c)[i]? = some k) (hfin : k ≠ .fin) :
    i + 1 < (stepsOf c).length := by
  obtain ⟨hi, rfl⟩ := List.getElem?_eq_some_iff.1 hk
  have hlast : (stepsOf c).getLast? = some .fin := by cases c <;> rfl
  by_contra hend
  obtain rfl : i = (stepsOf c).length - 1 := by omega
  rw [List.getLast?_eq_getElem?, hk] at hlast
  exact hfin (Option.some.inj hlast)

/-- ILLEGAL has no entry but FIN (R80). -/
theorem ne_illegal_of_ne_fin {c : Cmd} {i : Nat} {k : StepKind} (hk : (stepsOf c)[i]? = some k) (hfin : k ≠ .fin) :
    c ≠ .illegal := by
  rintro rfl
  have := next_entry_of_ne_fin hk hfin
  simp [stepsOf, illegalSteps] at this

/-- At least two entries, a stop and FIN, follow an entry that may fail, so the abort path is no longer than they are (R80,
R109). -/
theorem two_entries_after_failable {c : Cmd} {i : Nat} {k : StepKind} (hk : (stepsOf c)[i]? = some k)
    (hfail : k.takesOutcome = true) : i + 2 < (stepsOf c).length := by
  have hlists : ∀ c : Cmd, ∀ i : Fin (stepsOf c).length,
      (stepsOf c)[i].takesOutcome = true → (i : Nat) + 2 < (stepsOf c).length := by
    intro c; cases c <;> decide
  obtain ⟨hi, rfl⟩ := List.getElem?_eq_some_iff.1 hk
  exact hlists c ⟨i, hi⟩ hfail

end Sys2Proof.Machine

/-! ## What an operation leaves as it was, and where an entry of a step list leads -/

namespace Sys2Proof.Machine

/-- The registers that no bus step writes: STATUS, RESULT, the cache and the command latches (R24 to R30, R33, R38). -/
structure State.KeepsRegisters (s t : State) : Prop where
  busy : t.busy = s.busy
  done : t.done = s.done
  ovr : t.ovr = s.ovr
  code : t.code = s.code
  result : t.result = s.result
  cfgCache : t.cfgCache = s.cfgCache
  op : t.op = s.op
  arg : t.arg = s.arg
  rsv : t.rsv = s.rsv
  hi : t.hi = s.hi
  v : t.v = s.v

/-- The latched word stays with its latches (R38). -/
theorem State.KeepsRegisters.latchedWord {s t : State} (h : s.KeepsRegisters t) : t.latchedWord = s.latchedWord := by
  simp only [State.latchedWord, h.hi, h.arg, h.rsv, h.op]

/-- FIN is FINISH with the command's pair (R81). -/
theorem State.runEntry_fin (s : State) (c : Cmd) (i : Nat) (fin : State → Code × Word) :
    s.runEntry c i fin .fin = s.finish c.loadsCfg (fin s).1 (fin s).2 := rfl

section BusEntry

variable (s : State) (c : Cmd) (i : Nat) (fin : State → Code × Word) {k : StepKind}

/-- An entry other than FIN writes none of STATUS, RESULT, the cache and the command latches (R79). -/
theorem State.runEntry_keepsRegisters (hfin : k ≠ .fin) : s.KeepsRegisters (s.runEntry c i fin k) := by
  rcases s.runEntry_cases c i fin k with ⟨-, -, h⟩ | ⟨-, -, h⟩ | ⟨-, _, _, -, h⟩ | ⟨_, -, _, _, -, h⟩ |
    ⟨-, _, _, -, h⟩ | ⟨-, _, _, -, h⟩ | ⟨-, _, _, -, h⟩ | ⟨-, h⟩ | ⟨_, -, h⟩ | ⟨hf, -⟩
  pick_goal 10
  · exact absurd hf hfin
  all_goals rw [h]; constructor <;> simp

/-- The host's coming events are untouched by an entry (R9). -/
theorem State.runEntry_host : (s.runEntry c i fin k).host = s.host := by
  rcases s.runEntry_cases c i fin k with ⟨-, -, h⟩ | ⟨-, -, h⟩ | ⟨-, _, _, -, h⟩ | ⟨_, -, _, _, -, h⟩ |
    ⟨-, _, _, -, h⟩ | ⟨-, _, _, -, h⟩ | ⟨-, _, _, -, h⟩ | ⟨-, h⟩ | ⟨_, -, h⟩ | ⟨-, h⟩
  all_goals simp [h]

/-- Where an entry other than FIN leads (R79): it waits for the transport, or it takes the answer it needs, opens or closes the
transaction, and goes on by one entry, or to ABORT(0) where it may fail. -/
theorem State.runEntry_waits_or_moves (hfin : k ≠ .fin) :
    (s.runEntry c i fin k = s ∧
      ((k.takesOutcome = true ∧ s.outcomes = []) ∨ (k.takesByte = true ∧ s.bytes = []))) ∨
    ((s.runEntry c i fin k).busOpen = openAfter s.busOpen k ∧
      (s.runEntry c i fin k).outcomes = (if k.takesOutcome then s.outcomes.tail else s.outcomes) ∧
      (s.runEntry c i fin k).bytes = (if k.takesByte then s.bytes.tail else s.bytes) ∧
      ((s.runEntry c i fin k).seq = .run c (i + 1) ∨
        (k.takesOutcome = true ∧ (s.runEntry c i fin k).seq = .abort 0))) := by
  have hfollow (o : BusOutcome) (t : State) :
      (t.follow c i o).seq = .run c (i + 1) ∨ (true = true ∧ (t.follow c i o).seq = .abort 0) := by
    cases o <;> simp
  rcases s.runEntry_cases c i fin k with ⟨hk, ho, h⟩ | ⟨hk, hb, h⟩ | ⟨rfl, o, _, ho, h⟩ | ⟨x, rfl, o, _, ho, h⟩ |
    ⟨rfl, o, _, ho, h⟩ | ⟨rfl, _, _, hb, h⟩ | ⟨rfl, _, _, hb, h⟩ | ⟨rfl, h⟩ | ⟨_, rfl, h⟩ | ⟨hf, -⟩
  · exact .inl ⟨h, .inl ⟨by rcases hk with rfl | rfl | ⟨_, rfl⟩ <;> rfl, ho⟩⟩
  · exact .inl ⟨h, .inr ⟨by rcases hk with rfl | rfl <;> rfl, hb⟩⟩
  pick_goal 8
  · exact absurd hf hfin
  all_goals
    rw [h]
    refine .inr ⟨by simp [openAfter], by simp [StepKind.takesOutcome, *], by simp [StepKind.takesByte, *], ?_⟩
  · exact hfollow ..
  · exact hfollow ..
  · exact hfollow ..
  all_goals exact .inl rfl

end BusEntry

end Sys2Proof.Machine

/-! ## Everything a step can do -/

namespace Sys2Proof.Machine

/-- The state whose next host event, if there is one, is taken off the list: what a turn works on (log entry 2). -/
abbrev State.popHost (s : State) : State := { s with host := s.host.tail }

/-- The effect of one step, by what it does to the VSC: nothing but a read recorded, the accept, an overrun, an entry of a step
list, its FINISH, a step of the abort path, or the reset input (R9). -/
inductive StepEffect (s : State) : State → Prop
  | quiet (reads : List Word) : StepEffect s { s.popHost with reads := reads }
  | accept {w : Word} {rest : List HostEvent} (hhost : s.host = .write 0x0 4 w :: rest) (hbusy : s.busy = false) :
      StepEffect s (s.popHost.accept w)
  | overrun {w : Word} {rest : List HostEvent} (hhost : s.host = .write 0x0 4 w :: rest)
      (hbusy : s.busy = true ∨ s.seq ≠ .idle) : StepEffect s s.popHost.overrun
  | entry {c : Cmd} {i : Nat} {k : StepKind} (hseq : s.seq = .run c i) (hk : (stepsOf c)[i]? = some k) (hfin : k ≠ .fin) :
      StepEffect s (s.popHost.runEntry c i (finOf c) k)
  | finish {c : Cmd} {i : Nat} (hseq : s.seq = .run c i) (hk : (stepsOf c)[i]? = some .fin) :
      StepEffect s (s.popHost.finish c.loadsCfg (finOf c s.popHost).1 (finOf c s.popHost).2)
  | abortStop (hseq : s.seq = .abort 0) : StepEffect s { s.popHost.busStop with seq := .abort 1 }
  | abortFinish (hseq : s.seq = .abort 1) : StepEffect s (s.popHost.finish false .busError 0)
  | reset {rest : List HostEvent} (hhost : s.host = .reset :: rest) : StepEffect s s.popHost.resetInput

/-- Only an aligned 32-bit access at offset 0 reaches CMD (R20, R21). -/
theorem hostTarget_eq_cmd {offset width : Nat} (h : hostTarget offset width = some .cmd) : offset = 0x0 ∧ width = 4 := by
  unfold hostTarget hostRegAt at h
  split at h
  · next hwidth =>
    split at h <;> cases h
    exact ⟨rfl, hwidth⟩
  · cases h

/-- Entry i of the list of the command at SEQ, FIN or not, is a step's effect (R37, R79). -/
theorem StepEffect.runEntry {s : State} {c : Cmd} {i : Nat} {k : StepKind} (hseq : s.seq = .run c i)
    (hk : (stepsOf c)[i]? = some k) : StepEffect s (s.popHost.runEntry c i (finOf c) k) := by
  by_cases hfin : k = .fin
  · subst hfin; exact .finish hseq hk
  · exact .entry hseq hk hfin

/-- A step of the abort path is a step's effect (R109). -/
theorem StepEffect.abortStep {s : State} {j : Fin 2} (hseq : s.seq = .abort j) :
    StepEffect s (s.popHost.abortStep j) := by
  match j, hseq with
  | 0, hseq => exact .abortStop hseq
  | 1, hseq => exact .abortFinish hseq

/-- The sequencer's turn does nothing at IDLE, and else takes the next entry or the next step of the abort path (R37). -/
theorem StepEffect.of_sequencerTurn {s t : State} (h : s.popHost.sequencerTurn = .next t) : StepEffect s t := by
  rw [State.sequencerTurn_eq] at h
  split at h
  · cases h; exact .quiet s.reads
  · next c i hseq =>
    obtain ⟨k, hk, rfl⟩ := State.runList_eq_next.1 h
    exact .runEntry hseq hk
  · next j hseq => cases h; exact .abortStep hseq

/-- A host write to CMD is an overrun or acts for the command of its word (R22, R27, R28). -/
theorem StepEffect.of_writeCmd {s t : State} {w : Word} {rest : List HostEvent} (hhost : s.host = .write 0x0 4 w :: rest)
    (h : s.popHost.writeCmd w = .next t) : StepEffect s t := by
  rcases State.writeCmd_cases h with ⟨hbusy, rfl⟩ | ⟨hbusy, ins, hdecode, hexec⟩ | ⟨hbusy, -, -, rfl⟩
  · exact .overrun hhost (.inl hbusy)
  · rw [exec_eq_perform] at hexec
    rcases State.perform_cases hexec with ⟨-, rfl⟩ | ⟨i, k, hseq, hk, rfl⟩ | ⟨c, i, hseq, -, rfl⟩ | ⟨j, hseq, rfl⟩
    · rw [encode_of_decode_eq_ok hdecode]; exact .accept hhost hbusy
    · exact .runEntry hseq hk
    · exact .overrun hhost (.inr (hseq ▸ Seq.noConfusion))
    · exact .abortStep hseq
  · exact .accept hhost hbusy

/-- A step that answers a next state has one of the effects (R9). -/
theorem step_effect {s t : State} (h : step s = .next t) : StepEffect s t := by
  have hpop {e : HostEvent} {rest : List HostEvent} (hhost : s.host = e :: rest) : { s with host := rest } = s.popHost := by
    rw [State.popHost, hhost, List.tail_cons]
  rcases step_cases h with ⟨hhost, hturn⟩ | ⟨rest, hhost, hturn⟩ | ⟨_, _, r, rest, hhost, -, rfl⟩ |
    ⟨offset, width, r, w, rest, hhost, htarget, hwrite⟩ | ⟨rest, hhost, rfl⟩
  · have hnil : s.popHost = s := by rw [State.popHost, hhost, List.tail_nil, ← hhost]
    exact .of_sequencerTurn (hnil.symm ▸ hturn)
  · exact .of_sequencerTurn (hpop hhost ▸ hturn)
  · rw [hpop hhost]; exact .quiet _
  · rw [hpop hhost] at hwrite
    cases r with
    | cmd =>
      obtain ⟨rfl, rfl⟩ := hostTarget_eq_cmd htarget
      exact .of_writeCmd hhost hwrite
    | status | result | cfg => cases hwrite; exact .quiet s.reads
  · rw [hpop hhost]; exact .reset hhost

end Sys2Proof.Machine

/-! ## The control invariant: each operation keeps it -/

namespace Sys2Proof.Machine

section ControlInvariant

variable {s t : State}

/-- The invariant speaks of the VSC's registers alone, not of the host's coming events or of the values read. -/
theorem State.Inv.of_host_reads (hs : s.Inv) (host : List HostEvent) (reads : List Word) :
    { s with host := host, reads := reads }.Inv :=
  ⟨hs.busyMatchesSeq, hs.sequenced, hs.busOpenMatchesSeq, hs.latchesMatchSeq, hs.doneMatchesBusy⟩

/-- Without a command in flight SEQ is IDLE (R24, R36). -/
theorem State.Inv.seq_of_not_busy (hs : s.Inv) (hbusy : s.busy = false) : s.seq = .idle := by
  by_contra hseq
  rw [hs.busyMatchesSeq.2 hseq] at hbusy
  cases hbusy

/-- While SEQ is not IDLE the VSC is busy (R24, R36). -/
theorem State.Inv.busy_of_seq (hs : s.Inv) {q : Seq} (hseq : s.seq = q) (hq : q ≠ .idle) : s.busy = true :=
  hs.busyMatchesSeq.2 (hseq ▸ hq)

/-- In IDLE the VSC owes the bus nothing (R41, R111). -/
theorem State.Inv.busOpen_of_idle (hs : s.Inv) (hseq : s.seq = .idle) : s.busOpen = false := by
  rw [hs.busOpenMatchesSeq, hseq, owesStop]

/-- Accept: the latches take the word's fields and V its value; the first entry is next, and the bus is idle (R27). -/
theorem State.Inv.accept (hs : s.Inv) (hbusy : s.busy = false) (w : Word) : (s.accept w).Inv where
  busyMatchesSeq := by simp [State.BusyMatchesSeq]
  sequenced := by rw [State.accept_seq, Sequenced]; cases classify w <;> decide
  busOpenMatchesSeq := by
    simp [State.BusOpenMatchesSeq, owesStop, hs.busOpen_of_idle (hs.seq_of_not_busy hbusy)]
  latchesMatchSeq := by
    obtain ⟨hset, htrig⟩ := wordOp_of_classify w
    exact ⟨by rw [State.latchedWord_accept], fun h => by simp [hset h], fun h => by simp [htrig h]⟩
  doneMatchesBusy := by simp [State.DoneMatchesBusy]

/-- Overrun writes OVR alone, and OVR is free while a command is in flight (R28). -/
theorem State.Inv.overrun (hs : s.Inv) (hbusy : s.busy = true) : s.overrun.Inv where
  busyMatchesSeq := hs.busyMatchesSeq
  sequenced := hs.sequenced
  busOpenMatchesSeq := hs.busOpenMatchesSeq
  latchesMatchSeq := hs.latchesMatchSeq
  doneMatchesBusy := ⟨hs.doneMatchesBusy.1, by simp [hbusy]⟩

/-- FINISH leads to IDLE with DONE, wherever the bus is idle (R81, R111). -/
theorem State.inv_finish (hopen : s.busOpen = false) (loadsCfg : Bool) (code : Code) (result : Word) :
    (s.finish loadsCfg code result).Inv where
  busyMatchesSeq := by simp [State.BusyMatchesSeq]
  sequenced := trivial
  busOpenMatchesSeq := hopen
  latchesMatchSeq := trivial
  doneMatchesBusy := by simp [State.DoneMatchesBusy]

/-- A transition that keeps the registers keeps the invariant, if SEQ goes to a position of a list or of the abort path at which
BUS_OPEN and the latches are right. -/
theorem State.Inv.of_keepsRegisters (hs : s.Inv) (hregs : s.KeepsRegisters t) (hseq : s.seq ≠ .idle) (hseq' : t.seq ≠ .idle)
    (hpos : Sequenced t.seq) (hopen : t.BusOpenMatchesSeq) (hlatches : t.LatchesMatchSeq) : t.Inv where
  busyMatchesSeq := by simp [State.BusyMatchesSeq, hregs.busy, hs.busyMatchesSeq.2 hseq, hseq']
  sequenced := hpos
  busOpenMatchesSeq := hopen
  latchesMatchSeq := hlatches
  doneMatchesBusy := by
    have hbusy : s.busy = true := hs.busyMatchesSeq.2 hseq
    simp [State.DoneMatchesBusy, hregs.busy, hregs.done, hbusy, hs.doneMatchesBusy.1 hbusy]

/-- The latches in flight (R38). -/
theorem State.Inv.latches_of_run (hs : s.Inv) {c : Cmd} {i : Nat} (hseq : s.seq = .run c i) :
    classify s.latchedWord = c ∧ (c = .setcfg → s.v = s.arg) ∧ (c = .trig → s.v = triggered s.cfgCache) := by
  simpa only [State.LatchesMatchSeq, hseq] using hs.latchesMatchSeq

/-- An entry other than FIN: where it waits nothing changes; else SEQ goes on by one entry, or to ABORT(0) inside the
transaction that the failing entry leaves open (R79, R109). -/
theorem State.Inv.runEntry (hs : s.Inv) {c : Cmd} {i : Nat} {k : StepKind} (hseq : s.seq = .run c i)
    (hk : (stepsOf c)[i]? = some k) (hfin : k ≠ .fin) (fin : State → Code × Word) : (s.runEntry c i fin k).Inv := by
  have hregs := s.runEntry_keepsRegisters c i fin hfin
  have hbusy : s.seq ≠ .idle := by simp [hseq]
  have hopenS : s.busOpen = owesStop (.run c i) := hseq ▸ hs.busOpenMatchesSeq
  obtain ⟨hword, hset, htrig⟩ := hs.latches_of_run hseq
  rcases s.runEntry_waits_or_moves c i fin hfin with ⟨hwait, -⟩ | ⟨hopen, -, -, hnext | ⟨hfail, hnext⟩⟩
  · rwa [hwait]
  · refine hs.of_keepsRegisters hregs hbusy (by simp [hnext]) ?pos ?opened ?latches
    case pos => rw [hnext]; exact next_entry_of_ne_fin hk hfin
    case opened => rw [State.BusOpenMatchesSeq, hopen, hnext, owesStop_after_entry hk, hopenS]
    case latches =>
      simp only [State.LatchesMatchSeq, hnext, hregs.latchedWord, hregs.v, hregs.arg, hregs.cfgCache]
      exact ⟨hword, hset, htrig⟩
  · refine hs.of_keepsRegisters hregs hbusy (by simp [hnext]) (by simp [hnext, Sequenced]) ?opened ?latches
    case opened =>
      rw [State.BusOpenMatchesSeq, hopen, hnext, hopenS, owesStop_at_entry hk, openAfter_of_takesOutcome hfail]
      rfl
    case latches =>
      simp only [State.LatchesMatchSeq, hnext, hregs.latchedWord, hword]
      exact ne_illegal_of_ne_fin hk hfin

/-- ABORT(0): the stop (R109). -/
theorem State.Inv.abortStop (hs : s.Inv) (hseq : s.seq = .abort 0) : { s.busStop with seq := .abort 1 }.Inv := by
  have hword : classify s.latchedWord ≠ .illegal := by
    simpa only [State.LatchesMatchSeq, hseq] using hs.latchesMatchSeq
  exact hs.of_keepsRegisters (by constructor <;> rfl) (by simp [hseq]) (by simp) trivial rfl hword

/-- At a FIN entry and at ABORT(1) the transaction is closed (R82, R111). -/
theorem State.Inv.busOpen_at_finish (hs : s.Inv)
    (hseq : (∃ c i, s.seq = .run c i ∧ (stepsOf c)[i]? = some .fin) ∨ s.seq = .abort 1) : s.busOpen = false := by
  rw [hs.busOpenMatchesSeq]
  rcases hseq with ⟨c, i, hseq, hk⟩ | hseq
  · rw [hseq, owesStop_at_entry hk, StepKind.insideTransaction]
  · rw [hseq]; rfl

/-- The reset values meet the invariant, whatever the agents around the VSC hold (R43, R125). -/
theorem State.inv_resetInput (s : State) : s.resetInput.Inv where
  busyMatchesSeq := by simp [State.BusyMatchesSeq, State.reset]
  sequenced := trivial
  busOpenMatchesSeq := rfl
  latchesMatchSeq := trivial
  doneMatchesBusy := by simp [State.DoneMatchesBusy, State.reset]

end ControlInvariant

/-- Settles O45: each effect of a step keeps the control invariant. -/
theorem stepKeepsControlInvariant : Obligations.StepKeepsControlInvariant := by
  unfold Obligations.StepKeepsControlInvariant
  intro s t hs hstep
  have hpop : s.popHost.Inv := hs.of_host_reads _ _
  cases step_effect hstep with
  | quiet reads => exact hs.of_host_reads _ _
  | accept _ hbusy => exact hpop.accept hbusy _
  | overrun _ hbusy => exact hpop.overrun (hbusy.elim id hs.busyMatchesSeq.2)
  | entry hseq hk hfin => exact hpop.runEntry hseq hk hfin _
  | finish hseq hk => exact State.inv_finish (hpop.busOpen_at_finish (.inl ⟨_, _, hseq, hk⟩)) ..
  | abortStop hseq => exact hpop.abortStop hseq
  | abortFinish hseq => exact State.inv_finish (hpop.busOpen_at_finish (.inr hseq)) ..
  | reset _ => exact State.inv_resetInput _

end Sys2Proof.Machine

/-! ## The host interface: writes to CMD, reads, and the accesses that reach no register -/

namespace Sys2Proof.Machine

section HostPort

variable {s : State}

/-- A write to CMD while busy is the overrun, whatever the word (R28). -/
theorem State.writeCmd_of_busy (hbusy : s.busy = true) (w : Word) : s.writeCmd w = .next s.overrun := by
  rw [State.writeCmd, if_pos hbusy]

/-- A write to CMD while not busy runs the decoded instruction (R22, R27). -/
theorem State.writeCmd_of_decode (hbusy : s.busy = false) {w : Word} {i : Instr} (hdecode : decode w = .ok i) :
    s.writeCmd w = exec i s := by
  simp [State.writeCmd, hbusy, hdecode]

/-- The meaning of a command at IDLE is the accept of its own word (R27). -/
theorem exec_at_idle (ins : Instr) (hseq : s.seq = .idle) : exec ins s = .next (s.accept (encode ins)) := by
  simp [exec_eq_perform, State.perform, hseq]

/-- A write to CMD at IDLE is the accept of the word, whether or not it passes the decode check (R27, R72). -/
theorem State.writeCmd_of_idle (hbusy : s.busy = false) (hseq : s.seq = .idle) (w : Word) :
    s.writeCmd w = .next (s.accept w) := by
  cases hdecode : decode w with
  | ok i => rw [State.writeCmd_of_decode hbusy hdecode, exec_at_idle i hseq, encode_of_decode_eq_ok hdecode]
  | error e => simp [State.writeCmd, hbusy, hdecode]

/-- With nothing more from the host the sequencer moves (R9). -/
theorem step_of_host_nil (hhost : s.host = []) : step s = s.sequencerTurn := by
  simp only [step, hhost]

/-- The host's next event is its turn (R9). -/
theorem step_of_host_cons {e : HostEvent} {rest : List HostEvent} (hhost : s.host = e :: rest) :
    step s = { s with host := rest }.hostTurn e := by
  simp only [step, hhost]

/-- A host read that reaches a register (R21). -/
theorem step_host_read {offset width : Nat} {r : HostReg} {rest : List HostEvent}
    (hhost : s.host = .read offset width :: rest) (htarget : hostTarget offset width = some r) :
    step s = .next ({ s with host := rest }.hostRead r) := by
  simp only [step_of_host_cons hhost, State.hostTurn, htarget]

/-- A host write that reaches a register (R20, R21). -/
theorem step_host_write {offset width : Nat} {r : HostReg} {w : Word} {rest : List HostEvent}
    (hhost : s.host = .write offset width w :: rest) (htarget : hostTarget offset width = some r) :
    step s = { s with host := rest }.hostWrite r w := by
  simp only [step_of_host_cons hhost, State.hostTurn, htarget]

/-- A host read that reaches no register is refused by name (R21). -/
theorem step_stray_read {offset width : Nat} {rest : List HostEvent}
    (hhost : s.host = .read offset width :: rest) (htarget : hostTarget offset width = none) :
    step s = .refused (.hostAccess offset width) := by
  simp only [step_of_host_cons hhost, State.hostTurn, htarget]

/-- A host write that reaches no register is refused by name (R21). -/
theorem step_stray_write {offset width : Nat} {w : Word} {rest : List HostEvent}
    (hhost : s.host = .write offset width w :: rest) (htarget : hostTarget offset width = none) :
    step s = .refused (.hostAccess offset width) := by
  simp only [step_of_host_cons hhost, State.hostTurn, htarget]

/-- A 32-bit host write to CMD (R22). -/
theorem step_cmd_write {w : Word} {rest : List HostEvent} (hhost : s.host = .write 0x0 4 w :: rest) :
    step s = { s with host := rest }.writeCmd w :=
  step_host_write hhost rfl

/-- Another width, an unaligned offset or an offset above 0xC reaches no register (R21). -/
theorem hostTarget_eq_none {offset width : Nat} (h : width ≠ 4 ∨ offset % 4 ≠ 0 ∨ 0xC < offset) :
    hostTarget offset width = none := by
  unfold hostTarget hostRegAt
  split
  · split
    case h_5 => rfl
    all_goals omega
  · rfl

end HostPort

/-- Settles O8: at IDLE every word is accepted, legal or not, and V's OR is the Trigger bit. -/
theorem acceptLatchesTheWord : Obligations.AcceptLatchesTheWord := by
  unfold Obligations.AcceptLatchesTheWord
  intro s w rest hhost hbusy hseq
  have haccept : step s = .next ({ s with host := rest }.accept w) := by
    rw [step_cmd_write hhost, State.writeCmd_of_idle (s := { s with host := rest }) hbusy hseq]
  exact ⟨[], haccept⟩

/-- Settles O9: the meaning at IDLE is the accept of the command's own word, whose fields are the command's. -/
theorem commandIsAcceptedAtIdle : Obligations.CommandIsAcceptedAtIdle := by
  unfold Obligations.CommandIsAcceptedAtIdle
  intro i s hwf hseq
  obtain ⟨hhi, hrsv, harg, hop⟩ := Laws.encodingFields_of i
  have hclass : classify (encode i) = cmdOf i := classify_of_decode_eq_ok (decode_encode_of_wellFormed hwf)
  rw [exec_at_idle i hseq, State.accept, hclass, hhi, hrsv, harg, hop]
  cases i <;> rfl

/-- Settles O7: the step hands a decoded CMD write, and a sequencer's turn, to `exec`. -/
theorem stepRunsDecodedCommand : Obligations.StepRunsDecodedCommand := by
  unfold Obligations.StepRunsDecodedCommand
  have hturn (s : State) (i : Instr) (hflight : s.inFlight = some i) : s.sequencerTurn = exec i s := by
    simp only [State.sequencerTurn, hflight]
  refine ⟨fun s w i rest hhost hbusy hdecode => ?write,
    fun s i hflight => ⟨fun hhost => ?silent, fun rest hhost => ?turn⟩⟩
  case write => rw [step_cmd_write hhost, State.writeCmd_of_decode (s := { s with host := rest }) hbusy hdecode]
  case silent => rw [step_of_host_nil hhost, hturn s i hflight]
  case turn => rw [step_of_host_cons hhost]; exact hturn { s with host := rest } i hflight

/-- Settles O10: while busy the decode check is not even asked. -/
theorem busyWriteOnlySetsOverrun : Obligations.BusyWriteOnlySetsOverrun := by
  unfold Obligations.BusyWriteOnlySetsOverrun
  intro s w rest hhost hbusy
  rw [step_cmd_write hhost]
  exact State.writeCmd_of_busy (s := { s with host := rest }) hbusy w

/-- Settles O11: each of the four offsets reaches its register. -/
theorem hostReadsReturnTheRegisters : Obligations.HostReadsReturnTheRegisters := by
  unfold Obligations.HostReadsReturnTheRegisters
  intro s rest
  exact ⟨fun h => step_host_read h rfl, fun h => step_host_read h rfl, fun h => step_host_read h rfl,
    fun h => step_host_read h rfl⟩

/-- Settles O12: the three offsets reach STATUS, RESULT and CFG, at which a write does nothing. -/
theorem writesToReadOnlyRegistersIgnored : Obligations.WritesToReadOnlyRegistersIgnored := by
  unfold Obligations.WritesToReadOnlyRegistersIgnored
  rintro s offset w rest hhost (rfl | rfl | rfl)
  · exact step_host_write (r := .status) hhost rfl
  · exact step_host_write (r := .result) hhost rfl
  · exact step_host_write (r := .cfg) hhost rfl

/-- Settles O13: such an access reaches no register. -/
theorem otherHostAccessesAreRefused : Obligations.OtherHostAccessesAreRefused := by
  unfold Obligations.OtherHostAccessesAreRefused
  intro s offset width w rest hstray
  exact ⟨fun h => step_stray_read h (hostTarget_eq_none hstray), fun h => step_stray_write h (hostTarget_eq_none hstray)⟩

/-- From bit 4 on STATUS has the bits of CODE, and nothing above them (R23). -/
theorem State.statusWord_getLsbD_code (s : State) (n : Nat) :
    s.statusWord.getLsbD (4 + n) = s.code.bits.getLsbD n := by
  have hpiece : 4 + n - 1 - 1 - 1 - 1 = n := by omega
  simp only [State.statusWord, flag, BitVec.getLsbD_append]
  rw [if_neg (by omega), if_neg (by omega), if_neg (by omega), if_neg (by omega), hpiece]
  split
  · rfl
  · next hn => simp [s.code.bits.getLsbD_of_ge n (by omega)]

/-- The lower four bits of STATUS are BUSY, DONE, OVR and a 0 (R23). -/
theorem State.statusWord_getLsbD_flags (s : State) :
    s.statusWord.getLsbD 0 = s.busy ∧ s.statusWord.getLsbD 1 = s.done ∧ s.statusWord.getLsbD 2 = s.ovr ∧
      s.statusWord.getLsbD 3 = false := by
  simp only [State.statusWord, flag, BitVec.getLsbD_append]
  simp

/-- Settles O14: the flags at their bits, and CODE's number from bit 4 on. -/
theorem statusWordLayout : Obligations.StatusWordLayout := by
  unfold Obligations.StatusWordLayout
  intro s
  obtain ⟨hbusy, hdone, hovr, hzero⟩ := s.statusWord_getLsbD_flags
  have hcode : s.statusWord.extractLsb' 4 4 = s.code.bits := by
    ext n hn
    simp [s.statusWord_getLsbD_code, BitVec.getLsbD_eq_getElem hn]
  have hhigh : s.statusWord.extractLsb' 8 24 = 0 := by
    ext n hn
    simp [show 8 + n = 4 + (4 + n) by omega, s.statusWord_getLsbD_code]
  refine ⟨hbusy, hdone, hovr, hzero, hhigh, ?_⟩
  rw [hcode]
  cases s.code <;> rfl

/-- Settles O15, by evaluation of the one reset state. -/
theorem resetValues : Obligations.ResetValues := by
  unfold Obligations.ResetValues
  decide

end Sys2Proof.Machine

/-! ## Entries that need no outcome, FINISH, and the ILLEGAL command -/

namespace Sys2Proof.Machine

/-- Settles O20: each command at an entry runs that entry of its list: a read latches its byte, a stop closes the transaction
and a STOP>T writes the count to its temporary alone. -/
theorem readAndStopStepsNeverFail : Obligations.ReadAndStopStepsNeverFail := by
  unfold Obligations.ReadAndStopStepsNeverFail
  intro s ins i _ hseq
  refine ⟨fun b rest hb hrda => ?rda, fun b rest hb hrdn => ?rdn, fun hstop => ?stop, fun T hstopTo => ?stopTo⟩
  case rda =>
    rw [exec_at_entry hseq hrda, State.runEntry, State.busRead_answered hb]
    rfl
  case rdn =>
    rw [exec_at_entry hseq hrdn, State.runEntry, State.busRead_answered hb]
    rfl
  case stop =>
    rw [exec_at_entry hseq hstop]
    rfl
  case stopTo =>
    rw [exec_at_entry hseq hstopTo]
    cases T <;> rfl

/-- Settles O24: entry 4 of SETCFG's list is its FIN. -/
theorem setcfgFinishes : Obligations.SetcfgFinishes := by
  unfold Obligations.SetcfgFinishes
  intro s cfg hseq
  exact exec_at_entry (ins := .setcfg cfg) (k := .fin) hseq rfl

/-- Settles O26: entry 4 of TRIG's list is its FIN. -/
theorem trigFinishes : Obligations.TrigFinishes := by
  unfold Obligations.TrigFinishes
  intro s hseq
  exact exec_at_entry (ins := .trig) (k := .fin) hseq rfl

/-- ILLEGAL's one entry is its FINISH (R72, R80). -/
theorem State.sequencerTurn_illegal {s : State} (hseq : s.seq = .run .illegal 0) :
    s.sequencerTurn = .next (s.finish false .illegalCmd 0) := by
  rw [State.sequencerTurn_eq, hseq]
  rfl

/-- After the accept of a word that fails the decode check the sequencer's turn is ILLEGAL's FINISH (R72, R108). -/
theorem step_accept_illegal {s : State} {w : Word} {e : DecodeError} (hhost : s.host = []) (herror : decode w = .error e) :
    step (s.accept w) = .next ((s.accept w).finish false .illegalCmd 0) := by
  have hseq : (s.accept w).seq = .run .illegal 0 := by rw [State.accept_seq, classify_of_decode_eq_error herror]
  rw [step_of_host_nil (s := s.accept w) hhost, State.sequencerTurn_illegal hseq]

/-- Settles O32: the accept of the word, then ILLEGAL's FINISH. -/
theorem illegalWordRunsToIllegalCmd : Obligations.IllegalWordRunsToIllegalCmd := by
  unfold Obligations.IllegalWordRunsToIllegalCmd
  rintro s w e ⟨hbusy, hseq⟩ hhost herror
  have haccept : step s = .next ({ s with host := [] }.accept w) := by
    rw [step_cmd_write hhost, State.writeCmd_of_idle (s := { s with host := [] }) hbusy hseq]
  have hrun : run 2 s = .next (({ s with host := [] }.accept w).finish false .illegalCmd 0) := by
    simp only [run, haccept, step_accept_illegal (s := { s with host := [] }) rfl herror]
  exact ⟨_, hrun, rfl, rfl, rfl, rfl, rfl, rfl, rfl, rfl, State.latchedWord_accept { s with host := [] } w, rfl, rfl, rfl⟩

end Sys2Proof.Machine

/-! ## Frames: which transitions write the results, the latches and the status bits -/

namespace Sys2Proof.Machine

section Frames

variable {s t : State}

/-- Where the registers are kept, the results are (R42). -/
theorem State.KeepsRegisters.sameResults (h : s.KeepsRegisters t) : s.SameResults t :=
  ⟨h.code, h.result, h.cfgCache⟩

/-- SETCFG and TRIG alone load the cache (R81). -/
theorem Cmd.loadsCfg_iff (c : Cmd) : c.loadsCfg = true ↔ c = .setcfg ∨ c = .trig := by
  cases c <;> simp [Cmd.loadsCfg]

/-- The transition of an instruction, told apart by what it may write: the accept, an overrun, an entry of its own list, its own
FINISH, the stop of the abort path, and the FINISH that ends it (R27, R28, R37, R109). -/
theorem exec_cases {ins : Instr} (h : exec ins s = .next t) :
    (s.seq = .idle ∧ t = s.accept (encode ins)) ∨
    (s.seq ≠ .idle ∧ t = s.overrun) ∨
    (∃ i k, s.seq = .run (cmdOf ins) i ∧ (stepsOf (cmdOf ins))[i]? = some k ∧ k ≠ .fin ∧
      t = s.runEntry (cmdOf ins) i (finOf (cmdOf ins)) k) ∨
    (∃ i code result, s.seq = .run (cmdOf ins) i ∧ (stepsOf (cmdOf ins))[i]? = some .fin ∧
      t = s.finish (cmdOf ins).loadsCfg code result) ∨
    (s.seq = .abort 0 ∧ t = { s.busStop with seq := .abort 1 }) ∨
    (s.seq = .abort 1 ∧ t = s.finish false .busError 0) := by
  rw [exec_eq_perform] at h
  rcases State.perform_cases h with ⟨hseq, rfl⟩ | ⟨i, k, hseq, hk, rfl⟩ | ⟨c, i, hseq, -, rfl⟩ | ⟨j, hseq, rfl⟩
  · exact .inl ⟨hseq, rfl⟩
  · by_cases hfin : k = .fin
    · subst hfin; exact .inr (.inr (.inr (.inl ⟨i, _, _, hseq, hk, rfl⟩)))
    · exact .inr (.inr (.inl ⟨i, k, hseq, hk, hfin, rfl⟩))
  · exact .inr (.inl ⟨by simp [hseq], rfl⟩)
  · match j, hseq with
    | 0, hseq => exact .inr (.inr (.inr (.inr (.inl ⟨hseq, rfl⟩))))
    | 1, hseq => exact .inr (.inr (.inr (.inr (.inr ⟨hseq, rfl⟩))))

/-- An entry writes B0 only as an RDA, B1 only as an RDN, and a temporary only as the STOP>T of its channel (R39, R40, R79). -/
theorem State.runEntry_dataLatches (s : State) (c : Cmd) (i : Nat) (fin : State → Code × Word) (k : StepKind) :
    ((s.runEntry c i fin k).b0 ≠ s.b0 → k = .rda) ∧
    ((s.runEntry c i fin k).b1 ≠ s.b1 → k = .rdn) ∧
    ((s.runEntry c i fin k).tmpR ≠ s.tmpR → k = .stopTo .red) ∧
    ((s.runEntry c i fin k).tmpG ≠ s.tmpG → k = .stopTo .green) ∧
    ((s.runEntry c i fin k).tmpB ≠ s.tmpB → k = .stopTo .blue) := by
  rcases s.runEntry_cases c i fin k with ⟨-, -, h⟩ | ⟨-, -, h⟩ | ⟨rfl, _, _, -, h⟩ | ⟨_, rfl, _, _, -, h⟩ |
    ⟨rfl, _, _, -, h⟩ | ⟨rfl, _, _, -, h⟩ | ⟨rfl, _, _, -, h⟩ | ⟨rfl, h⟩ | ⟨T, rfl, h⟩ | ⟨rfl, h⟩
  pick_goal 9
  · cases T <;> simp [h]
  all_goals simp [h]

end Frames

/-- Settles O40: a FINISH alone writes the results, and the abort path's loads no cache. -/
theorem onlyFinishWritesResults : Obligations.OnlyFinishWritesResults := by
  unfold Obligations.OnlyFinishWritesResults
  intro ins s t hexec
  rcases exec_cases hexec with ⟨-, rfl⟩ | ⟨-, rfl⟩ | ⟨i, k, -, -, hfin, rfl⟩ | ⟨i, code, result, hseq, hk, rfl⟩ |
    ⟨-, rfl⟩ | ⟨hseq, rfl⟩
  · exact .inl ⟨rfl, rfl, rfl⟩
  · exact .inl ⟨rfl, rfl, rfl⟩
  · exact .inl (s.runEntry_keepsRegisters _ i _ hfin).sameResults
  · exact .inr (.inr ⟨i, hseq, hk, rfl⟩)
  · exact .inl ⟨rfl, rfl, rfl⟩
  · exact .inr (.inl ⟨hseq, rfl, rfl⟩)

/-- Settles O41: the two FINISHes that can change the cache are those of the commands that load it, where CODE is OK. -/
theorem cacheWrittenOnlyBySetcfgAndTrig : Obligations.CacheWrittenOnlyBySetcfgAndTrig := by
  unfold Obligations.CacheWrittenOnlyBySetcfgAndTrig
  intro s t hstep hcache
  cases step_effect hstep with
  | quiet _ | accept _ _ | overrun _ _ | abortStop _ => exact absurd rfl hcache
  | abortFinish _ => simp at hcache
  | entry _ _ hfin => exact absurd (State.runEntry_keepsRegisters _ _ _ _ hfin).cfgCache hcache
  | reset hhost => exact .inr ⟨⟨_, hhost⟩, rfl⟩
  | @finish c i hseq hk =>
    rw [State.finish_cfgCache] at hcache ⊢
    split at hcache
    · next hloads =>
      rw [if_pos hloads]
      exact .inl ⟨⟨c, i, (Cmd.loadsCfg_iff c).1 hloads.1, hseq, hk⟩, hloads.2, rfl, rfl, rfl⟩
    · exact absurd rfl hcache

/-- Settles O42: the accept alone writes the command latches, and the entries write the others by their kind. -/
theorem latchFrames : Obligations.LatchFrames := by
  unfold Obligations.LatchFrames
  intro ins s t hexec
  rcases exec_cases hexec with ⟨hidle, rfl⟩ | ⟨-, rfl⟩ | ⟨i, k, hseq, hk, hfin, rfl⟩ | ⟨_, _, _, -, -, rfl⟩ |
    ⟨-, rfl⟩ | ⟨-, rfl⟩
  case inr.inr.inl =>
    have hregs := s.runEntry_keepsRegisters (cmdOf ins) i (finOf (cmdOf ins)) hfin
    obtain ⟨hb0, hb1, hred, hgreen, hblue⟩ := s.runEntry_dataLatches (cmdOf ins) i (finOf (cmdOf ins)) k
    exact ⟨fun _ => ⟨hregs.op, hregs.arg, hregs.rsv, hregs.hi, hregs.v⟩,
      fun h => ⟨i, hseq, hb0 h ▸ hk⟩, fun h => ⟨i, hseq, hb1 h ▸ hk⟩, fun h => ⟨i, hseq, hred h ▸ hk⟩,
      fun h => ⟨i, hseq, hgreen h ▸ hk⟩, fun h => ⟨i, hseq, hblue h ▸ hk⟩⟩
  case inl => simp [hidle]
  all_goals simp

/-- Settles O44: BUSY rises at the accept and falls at a FINISH or at reset, DONE goes with it, and OVR rises at an overrun. -/
theorem statusBitFrames : Obligations.StatusBitFrames := by
  unfold Obligations.StatusBitFrames
  intro s t hs hstep
  cases step_effect hstep with
  | quiet _ | abortStop _ => simp +contextual
  | accept hhost hbusy => simp [hhost, hbusy]
  | overrun hhost hbusy =>
    have hbusy : s.busy = true := hbusy.elim id hs.busyMatchesSeq.2
    simp [hhost, hbusy]
  | @entry c i k _ _ hfin =>
    have hregs := s.popHost.runEntry_keepsRegisters c i (finOf c) hfin
    simp +contextual [hregs.busy, hregs.done, hregs.ovr]
  | finish hseq _ =>
    have hbusy : s.busy = true := hs.busy_of_seq hseq (by simp)
    simp +contextual [hbusy]
  | abortFinish hseq =>
    have hbusy : s.busy = true := hs.busy_of_seq hseq (by simp)
    simp +contextual [hbusy]
  | reset hhost => simp [hhost, State.reset]

end Sys2Proof.Machine

/-! ## RESULT beside its CODE, and the invariants at reset -/

namespace Sys2Proof.Machine

/-- With CODE OK any RESULT will do (R31). -/
theorem State.resultMatchesCode_of_ok {s : State} (hcode : s.code = .ok) : s.ResultMatchesCode := by
  simp [State.ResultMatchesCode, hcode]

/-- The rule speaks of CODE and RESULT alone (R31). -/
theorem State.ResultMatchesCode.of_eq {s t : State} (hs : s.ResultMatchesCode) (hcode : t.code = s.code)
    (hresult : t.result = s.result) : t.ResultMatchesCode := by
  rwa [State.ResultMatchesCode, hcode, hresult]

/-- Every command's pair puts the sentinel beside UNMAPPED_GAIN and 0 beside every other failure (R93, R99, R108). -/
theorem resultMatchesCode_finish_finOf (s u : State) (c : Cmd) (loadsCfg : Bool) :
    (s.finish loadsCfg (finOf c u).1 (finOf c u).2).ResultMatchesCode := by
  cases c with
  | chkp | setcfg | rdch | trig => exact State.resultMatchesCode_of_ok rfl
  | illegal => exact ⟨nofun, fun _ _ => rfl⟩
  | lux =>
    simp only [finOf, luxFin]
    split
    · exact ⟨fun _ => rfl, fun _ hgain => absurd rfl hgain⟩
    · exact State.resultMatchesCode_of_ok rfl
  | cct =>
    simp only [finOf, cctFin]
    split
    · exact ⟨nofun, fun _ _ => rfl⟩
    · split
      · exact ⟨nofun, fun _ _ => rfl⟩
      · exact State.resultMatchesCode_of_ok rfl

/-- Settles O46: only a FINISH and the reset input write CODE and RESULT, and they write matching pairs. -/
theorem stepKeepsResultBesideCode : Obligations.StepKeepsResultBesideCode := by
  unfold Obligations.StepKeepsResultBesideCode
  intro s t hs hstep
  cases step_effect hstep with
  | quiet _ | accept _ _ | overrun _ _ | abortStop _ => exact hs.of_eq rfl rfl
  | @entry c i k _ _ hfin =>
    have hregs := s.popHost.runEntry_keepsRegisters c i (finOf c) hfin
    exact hs.of_eq hregs.code hregs.result
  | finish _ _ => exact resultMatchesCode_finish_finOf ..
  | abortFinish _ => exact ⟨nofun, fun _ _ => rfl⟩
  | reset _ => exact State.resultMatchesCode_of_ok rfl

/-- Settles O48: the reset state is what the reset input makes of it, and its trace is bound to nothing before a command. -/
theorem resetMeetsTheInvariants : Obligations.ResetMeetsTheInvariants := by
  unfold Obligations.ResetMeetsTheInvariants
  refine ⟨State.reset.inv_resetInput, State.resultMatchesCode_of_ok rfl, ?disciplined⟩
  rintro (hbusy | hdone)
  · cases hbusy
  · cases hdone

end Sys2Proof.Machine

/-! ## Progress: which steps answer a next state -/

namespace Sys2Proof.Machine

section Progress

variable {s : State}

/-- From a sound state the sequencer's turn is never stuck: SEQ names an entry (R36). -/
theorem State.Inv.sequencerTurn_next (hs : s.Inv) : ∃ t, s.sequencerTurn = .next t := by
  rw [State.sequencerTurn_eq]
  rcases hseq : s.seq with _ | ⟨c, i⟩ | j
  · exact ⟨_, rfl⟩
  · have hi : i < (stepsOf c).length := by simpa only [hseq, Sequenced] using hs.sequenced
    exact ⟨_, State.runList_eq_next.2 ⟨_, List.getElem?_eq_getElem hi, rfl⟩⟩
  · exact ⟨_, rfl⟩

/-- From a sound state a write to a register always answers a next state: an overrun or an accept at CMD, nothing elsewhere (R20,
R27, R28). -/
theorem State.Inv.hostWrite_next (hs : s.Inv) (r : HostReg) (w : Word) : ∃ t, s.hostWrite r w = .next t := by
  cases r with
  | cmd =>
    cases hbusy : s.busy with
    | true => exact ⟨_, State.writeCmd_of_busy hbusy w⟩
    | false => exact ⟨_, State.writeCmd_of_idle hbusy (hs.seq_of_not_busy hbusy) w⟩
  | status | result | cfg => exact ⟨s, rfl⟩

end Progress

/-- Settles O49: the sequencer's turn and the accesses that reach a register answer a next state, and the others are refused. -/
theorem onlyStrayHostAccessesStop : Obligations.OnlyStrayHostAccessesStop := by
  unfold Obligations.OnlyStrayHostAccessesStop
  intro s hs
  cases hhost : s.host with
  | nil => exact .inl (step_of_host_nil hhost ▸ hs.sequencerTurn_next)
  | cons e rest =>
    have hrest : { s with host := rest }.Inv := hs.of_host_reads rest s.reads
    cases e with
    | turn => exact .inl (step_of_host_cons hhost ▸ hrest.sequencerTurn_next)
    | reset => exact .inl ⟨_, step_of_host_cons hhost⟩
    | read offset width =>
      cases htarget : hostTarget offset width with
      | some r => exact .inl ⟨_, step_host_read hhost htarget⟩
      | none => exact .inr ⟨offset, width, step_stray_read hhost htarget, htarget, .inl ⟨rest, rfl⟩⟩
    | write offset width w =>
      cases htarget : hostTarget offset width with
      | some r => exact .inl (step_host_write hhost htarget ▸ hrest.hostWrite_next r w)
      | none => exact .inr ⟨offset, width, step_stray_write hhost htarget, htarget, .inr ⟨w, rest, rfl⟩⟩

end Sys2Proof.Machine

/-! ## Termination: what a command still needs, and how long it still takes -/

namespace Sys2Proof.Machine

/-- The steps to IDLE from a position of SEQ, if the transport answers and nothing fails (R37, R109). -/
def stepsLeft : Seq → Nat
  | .idle => 0
  | .run c i => (stepsOf c).length - i
  | .abort j => 2 - j

/-- The entries that SEQ has still before it, the one it names among them (R36, R80). -/
def entriesLeft : Seq → List StepKind
  | .run c i => (stepsOf c).drop i
  | .idle => []
  | .abort _ => []

/-- The transport has an answer for each request of the entries left (R45, log entry 1). -/
def State.Supplied (s : State) : Prop :=
  (entriesLeft s.seq).countP StepKind.takesOutcome ≤ s.outcomes.length ∧
  (entriesLeft s.seq).countP StepKind.takesByte ≤ s.bytes.length

/-- A command is in flight or has finished, with nothing more from the host (R24, R25). -/
def State.Unattended (s : State) : Prop := s.host = [] ∧ (s.busy = true ∨ s.done = true)

/-- Nine outcomes and six bytes are enough at every position: CCT asks for no more (R101). -/
theorem State.supplied_of_nine_six {s : State} (ho : 9 ≤ s.outcomes.length) (hb : 6 ≤ s.bytes.length) : s.Supplied := by
  have hwhole : ∀ c : Cmd,
      (stepsOf c).countP StepKind.takesOutcome ≤ 9 ∧ (stepsOf c).countP StepKind.takesByte ≤ 6 := by
    intro c; cases c <;> decide
  cases hseq : s.seq with
  | idle | abort => simp [State.Supplied, entriesLeft, hseq]
  | run c i =>
    have hsub := List.drop_sublist i (stepsOf c)
    obtain ⟨hco, hcb⟩ := hwhole c
    rw [State.Supplied, hseq]
    exact ⟨(hsub.countP_le.trans hco).trans ho, (hsub.countP_le.trans hcb).trans hb⟩

/-- No command takes more than 19 steps (R37). -/
theorem stepsLeft_le_nineteen (q : Seq) : stepsLeft q ≤ 19 := by
  cases q with
  | idle => exact Nat.zero_le _
  | run c i =>
    have hlength : (stepsOf c).length ≤ 19 := by cases c <;> decide
    exact (Nat.sub_le _ _).trans hlength
  | abort j => simp only [stepsLeft]; omega

section Termination

variable {s : State}

/-- An entry other than FIN, with its answer to come: one entry fewer is left, or the abort path, and what is left of the answers
is enough for it (R79). -/
theorem State.Supplied.runEntry (hs : s.Supplied) {c : Cmd} {i : Nat} {k : StepKind} (hseq : s.seq = .run c i)
    (hk : (stepsOf c)[i]? = some k) (hfin : k ≠ .fin) (fin : State → Code × Word) :
    (s.runEntry c i fin k).Supplied ∧ stepsLeft (s.runEntry c i fin k).seq < stepsLeft s.seq := by
  have hleft : entriesLeft s.seq = k :: entriesLeft (.run c (i + 1)) := by
    rw [hseq]
    obtain ⟨hi, rfl⟩ := List.getElem?_eq_some_iff.1 hk
    exact List.drop_eq_getElem_cons hi
  obtain ⟨ho, hb⟩ := hs
  rw [hleft, List.countP_cons] at ho hb
  have hnext := next_entry_of_ne_fin hk hfin
  rcases s.runEntry_waits_or_moves c i fin hfin with ⟨-, ⟨hask, hnone⟩ | ⟨hask, hnone⟩⟩ |
    ⟨-, houtcomes, hbytes, hgo | ⟨hfail, hgo⟩⟩
  · simp [hask, hnone] at ho
  · simp [hask, hnone] at hb
  · refine ⟨⟨?outcomes, ?bytes⟩, ?steps⟩
    case outcomes =>
      rw [hgo, houtcomes]
      split
      · next hask => rw [List.length_tail]; rw [if_pos hask] at ho; omega
      · omega
    case bytes =>
      rw [hgo, hbytes]
      split
      · next hask => rw [List.length_tail]; rw [if_pos hask] at hb; omega
      · omega
    case steps => rw [hgo, hseq]; simp only [stepsLeft]; omega
  · have htwo := two_entries_after_failable hk hfail
    refine ⟨by simp [State.Supplied, entriesLeft, hgo], ?_⟩
    rw [hgo, hseq]
    simp only [stepsLeft, Fin.isValue, Fin.val_zero]
    omega

/-- FINISH leaves the VSC unattended and at IDLE, where nothing is needed and nothing is left (R81). -/
theorem State.finish_ends (hhost : s.host = []) (loadsCfg : Bool) (code : Code) (result : Word) :
    (s.finish loadsCfg code result).Unattended ∧ (s.finish loadsCfg code result).Supplied ∧
      stepsLeft (s.finish loadsCfg code result).seq = 0 := by
  simp [State.Unattended, State.Supplied, entriesLeft, stepsLeft, hhost]

/-- With the answers it needs, a command in flight takes a step that brings it nearer to IDLE (R37, R109). -/
theorem State.Inv.step_nearer (hs : s.Inv) (hun : s.Unattended) (hsup : s.Supplied) (hseq : s.seq ≠ .idle) :
    ∃ t, step s = .next t ∧ t.Unattended ∧ t.Supplied ∧ stepsLeft t.seq < stepsLeft s.seq := by
  obtain ⟨hhost, hflight⟩ := hun
  rw [step_of_host_nil hhost, State.sequencerTurn_eq]
  rcases hpos : s.seq with _ | ⟨c, i⟩ | j
  · exact absurd hpos hseq
  · have hi : i < (stepsOf c).length := by simpa only [hpos, Sequenced] using hs.sequenced
    have hk : (stepsOf c)[i]? = some (stepsOf c)[i] := List.getElem?_eq_getElem hi
    refine ⟨_, State.runList_eq_next.2 ⟨_, hk, rfl⟩, ?_⟩
    generalize (stepsOf c)[i] = k at hk
    by_cases hfin : k = .fin
    · subst hfin
      rw [State.runEntry_fin]
      obtain ⟨hun, hsup, hzero⟩ := s.finish_ends hhost c.loadsCfg (finOf c s).1 (finOf c s).2
      exact ⟨hun, hsup, by rw [hzero]; simp only [stepsLeft]; omega⟩
    · have hregs := s.runEntry_keepsRegisters c i (finOf c) hfin
      obtain ⟨hsup, hless⟩ := hsup.runEntry hpos hk hfin (finOf c)
      refine ⟨⟨by rw [State.runEntry_host, hhost], ?_⟩, hsup, hpos ▸ hless⟩
      rwa [hregs.busy, hregs.done]
  · match j with
    | 0 => exact ⟨_, rfl, ⟨hhost, hflight⟩, by simp [State.Supplied, entriesLeft], by simp [stepsLeft]⟩
    | 1 =>
      obtain ⟨hun, hsup, hzero⟩ := s.finish_ends hhost false .busError 0
      exact ⟨_, rfl, hun, hsup, by simp [stepsLeft]⟩

/-- At IDLE with no host access the VSC waits, for any number of steps (R125). -/
theorem run_at_idle (hhost : s.host = []) (hseq : s.seq = .idle) (n : Nat) : run n s = .next s := by
  have hstep : step s = .next s := by rw [step_of_host_nil hhost, State.sequencerTurn_eq, hseq]
  induction n with
  | zero => rfl
  | succ n ih => rw [run, hstep]; exact ih

/-- A command with the answers it needs is at its end after as many steps as are left, and stays there (R37). -/
theorem run_ends (n : Nat) : ∀ s : State, s.Inv → s.Unattended → s.Supplied → stepsLeft s.seq ≤ n →
    ∃ t, run n s = .next t ∧ t.Inv ∧ t.Unattended ∧ t.seq = .idle := by
  induction n with
  | zero =>
    intro s hs hun hsup hleft
    have hseq : s.seq = .idle := by
      by_contra hseq
      obtain ⟨_, -, -, -, hless⟩ := hs.step_nearer hun hsup hseq
      omega
    exact ⟨s, rfl, hs, hun, hseq⟩
  | succ n ih =>
    intro s hs hun hsup hleft
    by_cases hseq : s.seq = .idle
    · exact ⟨s, run_at_idle hun.1 hseq _, hs, hun, hseq⟩
    · obtain ⟨t, hstep, hun', hsup', hless⟩ := hs.step_nearer hun hsup hseq
      obtain ⟨u, hrun, hu⟩ := ih t (stepKeepsControlInvariant s t hs hstep) hun' hsup' (by omega)
      exact ⟨u, by rw [run, hstep]; exact hrun, hu⟩

end Termination

/-- Settles O50: nineteen steps are enough for what is left of any command, and at IDLE the invariant gives the rest. -/
theorem commandEndsWithinNineteenSteps : Obligations.CommandEndsWithinNineteenSteps := by
  unfold Obligations.CommandEndsWithinNineteenSteps
  intro s hs hbusy hhost ho hb
  obtain ⟨t, hrun, ht, ⟨-, hflight⟩, hseq⟩ :=
    run_ends 19 s hs ⟨hhost, .inl hbusy⟩ (State.supplied_of_nine_six ho hb) (stepsLeft_le_nineteen s.seq)
  have hidle : t.busy = false := by simpa [hseq] using mt ht.busyMatchesSeq.1
  exact ⟨t, hrun, hseq, hidle, hflight.resolve_left (by simp [hidle]), ht.busOpen_of_idle hseq⟩

end Sys2Proof.Machine

/-! ## The transport: waiting for an answer, the answers a transition takes, and the port's bit -/

namespace Sys2Proof.Machine

section Transport

variable {s t : State} {k : StepKind}

/-- The entries that ask for an outcome, listed (R79). -/
theorem StepKind.takesOutcome_iff : k.takesOutcome = true ↔ k = .start ∨ k = .rs ∨ ∃ x, k = .wr x := by
  cases k <;> simp [StepKind.takesOutcome]

/-- The entries that ask for a byte, listed (R79). -/
theorem StepKind.takesByte_iff : k.takesByte = true ↔ k = .rda ∨ k = .rdn := by
  cases k <;> simp [StepKind.takesByte]

/-- The entry needs an answer that the transport has not given (R52). -/
def State.Unanswered (s : State) (k : StepKind) : Prop :=
  (k.takesOutcome = true ∧ s.outcomes = []) ∨ (k.takesByte = true ∧ s.bytes = [])

/-- An entry without its answer leaves the state as it is (R52, log entry 5). -/
theorem State.Unanswered.runEntry (h : s.Unanswered k) (c : Cmd) (i : Nat) (fin : State → Code × Word) :
    s.runEntry c i fin k = s := by
  rcases h with ⟨hask, ho⟩ | ⟨hask, hb⟩
  · have hnone := State.bus_unanswered ho
    rcases StepKind.takesOutcome_iff.1 hask with rfl | rfl | ⟨x, rfl⟩
    · simp only [State.runEntry, (hnone _ _ 0).1]
    · simp only [State.runEntry, (hnone _ _ 0).2.1]
    · simp only [State.runEntry, (hnone 0 .read _).2.2]
  · rcases StepKind.takesByte_iff.1 hask with rfl | rfl
    · simp only [State.runEntry, State.busRead_unanswered hb]
    · simp only [State.runEntry, State.busRead_unanswered hb]

/-- With no host access, a step whose answer is missing answers the same state (R52, R136). -/
theorem State.Unanswered.step (h : s.Unanswered k) {c : Cmd} {i : Nat} (hhost : s.host = []) (hseq : s.seq = .run c i)
    (hk : (stepsOf c)[i]? = some k) : step s = .next s := by
  simp only [step_of_host_nil hhost, State.sequencerTurn_eq, hseq]
  exact State.runList_eq_next.2 ⟨k, hk, (h.runEntry c i (finOf c)).symm⟩

/-- A state that a step leaves as it is stays for any number of steps. -/
theorem run_of_step_self (h : step s = .next s) (n : Nat) : run n s = .next s := by
  induction n with
  | zero => rfl
  | succ n ih => rw [run, h]; exact ih

/-- What is left of the transport's answers between two states: all of them, or all but the first outcome, or all but the first
byte (R45, log entry 1). -/
inductive State.TakesAtMostOneAnswer (s t : State) : Prop
  | nothing (outcomes : t.outcomes = s.outcomes) (bytes : t.bytes = s.bytes)
  | outcome (o : BusOutcome) (outcomes : s.outcomes = o :: t.outcomes) (bytes : t.bytes = s.bytes)
  | byte (b : Byte) (outcomes : t.outcomes = s.outcomes) (bytes : s.bytes = b :: t.bytes)

/-- Of each list at most the first answer is taken, and one of the lists is left alone (R45). -/
theorem State.TakesAtMostOneAnswer.lists (h : s.TakesAtMostOneAnswer t) :
    (t.outcomes = s.outcomes ∨ ∃ o, s.outcomes = o :: t.outcomes) ∧
    (t.bytes = s.bytes ∨ ∃ b, s.bytes = b :: t.bytes) ∧
    (t.outcomes = s.outcomes ∨ t.bytes = s.bytes) := by
  cases h with
  | nothing ho hb => exact ⟨.inl ho, .inl hb, .inl ho⟩
  | outcome o ho hb => exact ⟨.inr ⟨o, ho⟩, .inl hb, .inr hb⟩
  | byte b ho hb => exact ⟨.inl ho, .inr ⟨b, hb⟩, .inl ho⟩

section Entry

variable (s) (c : Cmd) (i : Nat) (fin : State → Code × Word)

/-- An entry takes the one answer of its kind, or none (R79). -/
theorem State.runEntry_takesAtMostOneAnswer : s.TakesAtMostOneAnswer (s.runEntry c i fin k) := by
  rcases s.runEntry_cases c i fin k with ⟨-, -, h⟩ | ⟨-, -, h⟩ | ⟨-, o, _, ho, h⟩ | ⟨_, -, o, _, ho, h⟩ |
    ⟨-, o, _, ho, h⟩ | ⟨-, b, _, hb, h⟩ | ⟨-, b, _, hb, h⟩ | ⟨-, h⟩ | ⟨_, -, h⟩ | ⟨-, h⟩
  case inr.inr.inl | inr.inr.inr.inl | inr.inr.inr.inr.inl => exact .outcome o (by simp [h, ho]) (by simp [h])
  case inr.inr.inr.inr.inr.inl | inr.inr.inr.inr.inr.inr.inl => exact .byte b (by simp [h]) (by simp [h, hb])
  all_goals exact .nothing (by simp [h]) (by simp [h])

/-- An entry records the one primitive it issues, or none, and no value read by the host (R17, R79, log entry 3). -/
theorem State.runEntry_records :
    (s.runEntry c i fin k).reads = s.reads ∧
    ((s.runEntry c i fin k).trace = s.trace ∨ ∃ e, (s.runEntry c i fin k).trace = s.trace ++ [e]) := by
  rcases s.runEntry_cases c i fin k with ⟨-, -, h⟩ | ⟨-, -, h⟩ | ⟨-, _, _, -, h⟩ | ⟨_, -, _, _, -, h⟩ |
    ⟨-, _, _, -, h⟩ | ⟨-, _, _, -, h⟩ | ⟨-, _, _, -, h⟩ | ⟨-, h⟩ | ⟨_, -, h⟩ | ⟨-, h⟩
  all_goals simp [h]

end Entry

/-- An answered entry that may fail takes the outcome off the list and then follows it (R79). -/
theorem State.runEntry_answered {o : BusOutcome} {rest : List BusOutcome} (ho : s.outcomes = o :: rest)
    (hask : k.takesOutcome = true) (c : Cmd) (i : Nat) (fin : State → Code × Word) :
    ∃ u : State, u.outcomes = rest ∧ s.runEntry c i fin k = u.follow c i o := by
  rcases StepKind.takesOutcome_iff.1 hask with rfl | rfl | ⟨x, rfl⟩
  · exact ⟨_, rfl, State.runEntry_start_answered ho c i fin⟩
  · exact ⟨_, rfl, State.runEntry_rs_answered ho c i fin⟩
  · exact ⟨_, rfl, State.runEntry_wr_answered ho c i fin x⟩

/-- Where SEQ goes after an outcome given by its bit on the port (R51, R79). -/
theorem State.follow_ofBit_seq (s : State) (c : Cmd) (i : Nat) (b : BitVec 1) :
    (s.follow c i (BusOutcome.ofBit b)).seq = if b = 0#1 then .run c (i + 1) else .abort 0 := by
  rw [State.follow_eq_bit, BusOutcome.bit_ofBit]
  split <;> rfl

/-- The count of two bytes, zero-extended, is (B1 << 8) | B0 (R58, R87). -/
theorem combine_setWidth (b0 b1 : Byte) :
    (combine b0 b1).setWidth 32 = (b1.setWidth 32 <<< 8) ||| b0.setWidth 32 := by
  ext n hn
  simp [combine]
  grind

end Transport

/-- Settles O21: without its answer the step answers the same state, and so does a run of any number of steps. -/
theorem silentTransportHoldsTheSequencer : Obligations.SilentTransportHoldsTheSequencer := by
  unfold Obligations.SilentTransportHoldsTheSequencer
  intro n s c i k hhost hseq hk
  have hwait (h : s.Unanswered k) : run n s = .next s := run_of_step_self (h.step hhost hseq hk) n
  exact ⟨fun hask ho => hwait (.inl ⟨StepKind.takesOutcome_iff.2 hask, ho⟩),
    fun hask hb => hwait (.inr ⟨StepKind.takesByte_iff.2 hask, hb⟩)⟩

/-- Settles O43: only an entry meets the transport with an answer, the abort path's stop adds its one primitive, and the other
transitions take and record nothing. -/
theorem transitionsMeetTheTransportOnce : Obligations.TransitionsMeetTheTransportOnce := by
  unfold Obligations.TransitionsMeetTheTransportOnce
  intro ins s t hexec
  have hall : t.host = s.host ∧ t.reads = s.reads ∧ s.TakesAtMostOneAnswer t ∧
      (s.seq ≠ .idle → t.trace = s.trace ∨ ∃ e, t.trace = s.trace ++ [e]) := by
    rcases exec_cases hexec with ⟨hidle, rfl⟩ | ⟨-, rfl⟩ | ⟨i, k, -, -, -, rfl⟩ | ⟨_, _, _, -, -, rfl⟩ | ⟨-, rfl⟩ | ⟨-, rfl⟩
    · exact ⟨rfl, rfl, .nothing rfl rfl, absurd hidle⟩
    · exact ⟨rfl, rfl, .nothing rfl rfl, fun _ => .inl rfl⟩
    · obtain ⟨hreads, htrace⟩ := s.runEntry_records (k := k) (cmdOf ins) i (finOf (cmdOf ins))
      exact ⟨s.runEntry_host .., hreads, s.runEntry_takesAtMostOneAnswer .., fun _ => htrace⟩
    · exact ⟨rfl, rfl, .nothing rfl rfl, fun _ => .inl rfl⟩
    · exact ⟨rfl, rfl, .nothing rfl rfl, fun _ => .inr ⟨.stop, rfl⟩⟩
    · exact ⟨rfl, rfl, .nothing rfl rfl, fun _ => .inl rfl⟩
  obtain ⟨hhost, hreads, hanswer, htrace⟩ := hall
  obtain ⟨houtcomes, hbytes, hone⟩ := hanswer.lists
  exact ⟨hhost, hreads, houtcomes, hbytes, hone, htrace⟩

/-- Settles O18, list by list, by evaluation. -/
theorem stepListsOfTheCommands : Obligations.StepListsOfTheCommands := by
  unfold Obligations.StepListsOfTheCommands
  exact ⟨rfl, rfl, rfl, rfl, rfl, rfl, rfl⟩

/-- Settles O25: entry 6 of RDCH's list is its FIN, whose RESULT is the count. -/
theorem rdchFinishes : Obligations.RdchFinishes := by
  unfold Obligations.RdchFinishes
  intro s code hseq
  rw [← combine_setWidth]
  exact exec_at_entry (ins := .rdch code) (k := .fin) hseq rfl

/-- Settles O53: the entry takes the outcome of the bit and follows it. -/
theorem portBitDecidesTheNextPosition : Obligations.PortBitDecidesTheNextPosition := by
  unfold Obligations.PortBitDecidesTheNextPosition
  refine ⟨rfl, rfl, BusOutcome.ofBit_bit, fun s ins i b rest _ hseq ho hentry => ?_⟩
  obtain ⟨k, hk, hask⟩ : ∃ k, (stepsOf (cmdOf ins))[i]? = some k ∧ k.takesOutcome = true := by
    rcases hentry with hk | hk | ⟨x, hk⟩ <;> exact ⟨_, hk, rfl⟩
  obtain ⟨u, hrest, hfollow⟩ := State.runEntry_answered ho hask (cmdOf ins) i (finOf (cmdOf ins))
  rw [exec_at_entry hseq hk, hfollow]
  exact ⟨_, rfl, (u.follow_outcomes ..).trans hrest, u.follow_ofBit_seq ..⟩

end Sys2Proof.Machine

/-! ## The decode check and the encoder, exactly -/

namespace Sys2Proof

/-- The channel codes are the bytes from 8 to 11 (R8, R72 check 5). -/
theorem channelCodes_contains_iff (code : Byte) :
    Config.channelCodes.contains code = true ↔ 8 ≤ code.toNat ∧ code.toNat ≤ 11 := by
  simp only [Config.channelCodes, Config.cmdRed, Config.cmdGreen, Config.cmdBlue, Config.cmdWhite, List.contains_iff_mem,
    List.mem_cons, List.not_mem_nil, or_false]
  bv_omega

/-- Where HI and RSV are 0, OP and ARG decide (R72). -/
theorem decode_of_fields_zero {w : Word} (hhi : wordHi w = 0) (hrsv : wordRsv w = 0) :
    decode w = decodeOp (wordOp w) (wordArg w) := by
  simp [decode, hhi, hrsv]

/-- Check 1 of R72. -/
theorem decode_of_wordHi_ne {w : Word} (hhi : wordHi w ≠ 0) : decode w = .error .highHalfNotZero := if_pos hhi

/-- Check 2 of R72. -/
theorem decode_of_wordRsv_ne {w : Word} (hhi : wordHi w = 0) (hrsv : wordRsv w ≠ 0) :
    decode w = .error .reservedNotZero :=
  (if_neg (not_not.2 hhi)).trans (if_pos hrsv)

/-- Check 3 of R72: the opcodes of R73 are no command's. -/
theorem decodeOp_reserved {op : Nibble} (arg : Byte) (hop : op = 0 ∨ 7 ≤ op.toNat) :
    decodeOp op arg = .error (.reservedOpcode op) := by
  unfold decodeOp
  split
  case h_7 => rfl
  all_goals
    next hn =>
      rcases hop with rfl | h7
      · cases hn
      · omega

/-- Check 4 of R72: the commands without an argument take no other ARG than 0. -/
theorem decodeOp_strayArgument {op : Nibble} {arg : Byte} (hop : op = 1 ∨ op = 4 ∨ op = 5 ∨ op = 6) (harg : arg ≠ 0) :
    decodeOp op arg = .error (.strayArgument arg) := by
  rcases hop with rfl | rfl | rfl | rfl <;> exact if_neg harg

/-- Check 5 of R72: OP 0x3 takes the channel codes alone. -/
theorem decodeOp_noSuchChannel {code : Byte} (hcode : code.toNat < 8 ∨ 11 < code.toNat) :
    decodeOp 3 code = .error (.noSuchChannel code) := by
  have hno : ¬ Config.channelCodes.contains code = true := by
    rw [channelCodes_contains_iff]
    omega
  exact if_neg hno

/-- The decode check of an instruction's own word is that of its opcode and argument. -/
theorem decode_encode (i : Instr) : decode (encode i) = decodeOp i.opcode i.argument := by
  obtain ⟨hhi, hrsv, harg, hop⟩ := Laws.encodingFields_of i
  rw [decode_of_fields_zero hhi hrsv, hop, harg]

/-- Decoding inverts encoding on the well-formed instructions and on no others (R71, R72, R74). -/
theorem decode_eq_ok_iff {w : Word} {i : Instr} : decode w = .ok i ↔ i.wellFormed = true ∧ encode i = w := by
  constructor
  · intro h
    have hw : encode i = w := Machine.encode_of_decode_eq_ok h
    rw [← hw, decode_encode] at h
    refine ⟨?_, hw⟩
    cases i with
    | rdch code =>
      by_contra hno
      cases (if_neg hno).symm.trans h
    | _ => rfl
  · rintro ⟨hwf, rfl⟩
    exact Machine.decode_encode_of_wellFormed hwf

end Sys2Proof

/-! ## The mask and the match of a mnemonic -/

namespace Sys2Proof

/-- Two words are equal where their four fields are (R69). -/
theorem wordOf_eq_iff {w : Word} {hi : Half} {arg : Byte} {rsv op : Nibble} :
    wordOf hi arg rsv op = w ↔ hi = wordHi w ∧ arg = wordArg w ∧ rsv = wordRsv w ∧ op = wordOp w := by
  constructor
  · rintro rfl
    exact ⟨(Laws.wordHi_wordOf ..).symm, (Laws.wordArg_wordOf ..).symm, (Laws.wordRsv_wordOf ..).symm,
      (Laws.wordOp_wordOf ..).symm⟩
  · rintro ⟨rfl, rfl, rfl, rfl⟩
    exact Laws.wordOf_fields w

theorem wordHi_and (v w : Word) : wordHi (v &&& w) = wordHi v &&& wordHi w := BitVec.extractLsb'_and
theorem wordArg_and (v w : Word) : wordArg (v &&& w) = wordArg v &&& wordArg w := BitVec.extractLsb'_and
theorem wordRsv_and (v w : Word) : wordRsv (v &&& w) = wordRsv v &&& wordRsv w := BitVec.extractLsb'_and
theorem wordOp_and (v w : Word) : wordOp (v &&& w) = wordOp v &&& wordOp w := BitVec.extractLsb'_and

/-- A mask that keeps HI, RSV and OP tests these three fields, and ARG under the mask's own ARG (R69, R71). -/
theorem and_mask_eq_match_iff {w : Word} {m arg : Byte} {op : Nibble} :
    w &&& wordOf 0xFFFF m 0xF 0xF = wordOf 0 arg 0 op ↔
      wordHi w = 0 ∧ wordArg w &&& m = arg ∧ wordRsv w = 0 ∧ wordOp w = op := by
  have hhalf (x : Half) : x &&& 0xFFFF = x := BitVec.and_allOnes
  have hnibble (x : Nibble) : x &&& 0xF = x := BitVec.and_allOnes
  rw [eq_comm, wordOf_eq_iff, wordHi_and, wordArg_and, wordRsv_and, wordOp_and, Laws.wordHi_wordOf, Laws.wordArg_wordOf,
    Laws.wordRsv_wordOf, Laws.wordOp_wordOf, hhalf, hnibble, hnibble]
  simp only [eq_comm]

/-- A command without an operand is selected by its whole word (R71). -/
theorem decode_eq_ok_iff_and_allOnes {w : Word} {i : Instr} (hwf : i.wellFormed = true) :
    decode w = .ok i ↔ w &&& 0xFFFFFFFF#32 = encode i := by
  have hmask : w &&& 0xFFFFFFFF#32 = w := BitVec.and_allOnes
  rw [decode_eq_ok_iff, hmask]
  exact ⟨fun ⟨_, hw⟩ => hw.symm, fun hw => ⟨hwf, hw.symm⟩⟩

/-- A command whose operand is ARG is selected by HI, RSV and OP, where ARG is an operand its encoding admits (R69, R72). -/
theorem exists_decode_eq_iff {w : Word} {op : Nibble} {mk : Byte → Instr} (hop : ∀ a, (mk a).opcode = op)
    (harg : ∀ a, (mk a).argument = a) :
    (∃ a, decode w = .ok (mk a)) ↔
      wordHi w = 0 ∧ (mk (wordArg w)).wellFormed = true ∧ wordRsv w = 0 ∧ wordOp w = op := by
  simp only [decode_eq_ok_iff, encode, wordOf_eq_iff, hop, harg]
  constructor
  · rintro ⟨_, hwf, hhi, rfl, hrsv, hop'⟩
    exact ⟨hhi.symm, hwf, hrsv.symm, hop'.symm⟩
  · rintro ⟨hhi, hwf, hrsv, hop'⟩
    exact ⟨wordArg w, hwf, hhi.symm, rfl, hrsv.symm, hop'.symm⟩

/-- SETCFG is selected by HI, RSV and OP, with any ARG (R71). -/
theorem exists_decode_eq_setcfg_iff {w : Word} :
    (∃ cfg, decode w = .ok (.setcfg cfg)) ↔ w &&& 0xFFFF00FF#32 = 0x00000002#32 := by
  have hany : (Instr.setcfg (wordArg w)).wellFormed = true ↔ wordArg w &&& 0x00 = 0x00 :=
    iff_of_true rfl BitVec.and_zero
  rw [exists_decode_eq_iff (op := 2) (fun _ => rfl) (fun _ => rfl), hany]
  exact and_mask_eq_match_iff.symm

/-- The mask 0xFC leaves 8 of the channel codes and of no other byte: they share ARG[7:2] (R71, R72 check 5). -/
theorem channelCodes_contains_iff_and_mask (code : Byte) :
    Config.channelCodes.contains code = true ↔ code &&& 0xFC = 0x08 := by
  revert code
  decide

/-- RDCH is selected by HI, RSV, OP and the bits of ARG that the channel codes share (R71). -/
theorem exists_decode_eq_rdch_iff {w : Word} :
    (∃ code, decode w = .ok (.rdch code)) ↔ w &&& 0xFFFFFCFF#32 = 0x00000803#32 := by
  have hchannel : (Instr.rdch (wordArg w)).wellFormed = true ↔ wordArg w &&& 0xFC = 0x08 :=
    channelCodes_contains_iff_and_mask _
  rw [exists_decode_eq_iff (op := 3) (fun _ => rfl) (fun _ => rfl), hchannel]
  exact and_mask_eq_match_iff.symm

/-- Settles O1: a word's fields are the command's, and its decode check passes. -/
theorem decodeEncodeRoundTrip : Obligations.DecodeEncodeRoundTrip := by
  unfold Obligations.DecodeEncodeRoundTrip
  exact fun _ hwf => decode_eq_ok_iff.2 ⟨hwf, rfl⟩

/-- Settles O2: the converse direction of the round trip. -/
theorem decodedWordIsItsEncoding : Obligations.DecodedWordIsItsEncoding := by
  unfold Obligations.DecodedWordIsItsEncoding
  exact fun _ _ => decode_eq_ok_iff.1

/-- Settles O3: four rows keep the whole word, and the masks of SETCFG and RDCH leave out the bits of ARG that may vary. -/
theorem maskAndMatchSelectMnemonic : Obligations.MaskAndMatchSelectMnemonic := by
  unfold Obligations.MaskAndMatchSelectMnemonic
  exact fun w => ⟨decode_eq_ok_iff_and_allOnes rfl, exists_decode_eq_setcfg_iff, exists_decode_eq_rdch_iff,
    decode_eq_ok_iff_and_allOnes rfl, decode_eq_ok_iff_and_allOnes rfl, decode_eq_ok_iff_and_allOnes rfl⟩

/-- Settles O5, check by check. -/
theorem decodeChecksInOrder : Obligations.DecodeChecksInOrder := by
  unfold Obligations.DecodeChecksInOrder
  intro w
  refine ⟨decode_of_wordHi_ne, decode_of_wordRsv_ne, fun hhi hrsv hop => ?reserved, fun hhi hrsv hop harg => ?stray,
    fun hhi hrsv hop hcode => ?channel⟩
  case reserved => exact (decode_of_fields_zero hhi hrsv).trans (decodeOp_reserved _ hop)
  case stray => exact (decode_of_fields_zero hhi hrsv).trans (decodeOp_strayArgument hop harg)
  case channel =>
    have hop3 : wordOp w = 3 := hop
    rw [decode_of_fields_zero hhi hrsv, hop3]
    exact decodeOp_noSuchChannel hcode

/-- Settles O4: each written word is the encoding of its well-formed command. -/
theorem writtenWordsDecode : Obligations.WrittenWordsDecode := by
  unfold Obligations.WrittenWordsDecode
  exact ⟨decode_eq_ok_iff.2 ⟨rfl, rfl⟩, decode_eq_ok_iff.2 ⟨rfl, rfl⟩, decode_eq_ok_iff.2 ⟨rfl, rfl⟩,
    decode_eq_ok_iff.2 ⟨rfl, rfl⟩, decode_eq_ok_iff.2 ⟨rfl, rfl⟩, decode_eq_ok_iff.2 ⟨rfl, rfl⟩⟩

end Sys2Proof

/-! ## The assembler's words -/

namespace Sys2Proof.Machine

/-- A line that names a well-formed instruction assembles to its word (R76). -/
theorem HostCmd.assemble_eq_some {c : HostCmd} {i : Instr} (hc : c.instr = some i) (hwf : i.wellFormed = true) :
    c.assemble = some (encode i) := by
  cases c with
  | word imm => cases hc
  | _ => simp only [HostCmd.assemble, hc, if_pos hwf]

/-- A line that names an ill-formed instruction is refused (R76). -/
theorem HostCmd.assemble_eq_none {c : HostCmd} {i : Instr} (hc : c.instr = some i) (hwf : ¬ i.wellFormed = true) :
    c.assemble = none := by
  cases c with
  | word imm => cases hc
  | _ => simp only [HostCmd.assemble, hc, if_neg hwf]

/-- The word of an instruction is (ARG << 8) | OP (R69, R76). -/
theorem encode_eq_shift_or (i : Instr) : encode i = (i.argument.setWidth 32 <<< 8) ||| i.opcode.setWidth 32 := by
  simp [encode, wordOf]

/-- The Integration Time code k is bits 6 to 4 of the byte's number (R34). -/
theorem itCode_eq_div_mod (cfg : Byte) : itCode cfg = cfg.toNat / 16 % 8 := by
  have hmask : (112 >>> 4 : Nat) = 2 ^ 3 - 1 := rfl
  calc itCode cfg = (cfg.toNat &&& 112) >>> 4 := rfl
    _ = cfg.toNat >>> 4 % 8 := by rw [Nat.shiftRight_and_distrib, hmask, Nat.and_two_pow_sub_one_eq_mod]
    _ = cfg.toNat / 16 % 8 := by rw [Nat.shiftRight_eq_div_pow]

/-- The field lines name the Integration Times 0 to 5 alone (R78). -/
theorem IntegrationTime.code_le_five (it : IntegrationTime) : it.code ≤ 5 := by
  cases it <;> decide

/-- An Integration Time and the three flags at their bits, as a sum (R78). -/
theorem fields_or_toNat : ∀ k ≤ 5, ∀ trig force sd : Bool,
    ((BitVec.ofNat 8 k <<< 4) ||| ((flag trig).setWidth 8 <<< 2) ||| ((flag force).setWidth 8 <<< 1) |||
      (flag sd).setWidth 8).toNat = k * 16 + trig.toNat * 4 + force.toNat * 2 + sd.toNat := by
  decide

/-- The number of the byte that a field line gives (R78). -/
theorem CfgFields.byte_toNat (f : CfgFields) :
    f.byte.toNat = f.it.code * 16 + f.trig.toNat * 4 + f.force.toNat * 2 + f.sd.toNat :=
  fields_or_toNat f.it.code f.it.code_le_five f.trig f.force f.sd

/-- The byte of a field line holds its Integration Time at CFG[6:4] (R34, R78). -/
theorem CfgFields.itCode_byte (f : CfgFields) : itCode f.byte = f.it.code := by
  have hit := f.it.code_le_five
  have htrig := f.trig.toNat_le
  have hforce := f.force.toNat_le
  have hsd := f.sd.toNat_le
  rw [itCode_eq_div_mod, f.byte_toNat]
  omega

/-- Settles O6: each line assembles to the word of the instruction it names, and the flags of a field line lie below its
Integration Time. -/
theorem assemblerWords : Obligations.AssemblerWords := by
  unfold Obligations.AssemblerWords
  refine ⟨rfl, fun imm => ?setcfg, fun imm hlo hhi => ?rdch, fun imm hcode => ?refused, rfl, rfl, rfl, fun _ => rfl,
    rfl, rfl, rfl, rfl, fun f => ⟨rfl, f.byte_toNat, f.itCode_byte, f.it.code_le_five⟩⟩
  case setcfg =>
    rw [HostCmd.assemble_eq_some (i := .setcfg imm) rfl rfl, encode_eq_shift_or]
    rfl
  case rdch =>
    rw [HostCmd.assemble_eq_some (i := .rdch imm) rfl ((channelCodes_contains_iff imm).2 ⟨hlo, hhi⟩), encode_eq_shift_or]
    rfl
  case refused =>
    refine HostCmd.assemble_eq_none (i := .rdch imm) rfl fun hwf => ?_
    have hrange := (channelCodes_contains_iff imm).1 hwf
    omega

end Sys2Proof.Machine

/-! ## The bus discipline: each primitive keeps the trace well bracketed -/

namespace Sys2Proof.Machine

/-- One more primitive acts on what the trace before it leaves open (R82). -/
theorem traceOpen_append_singleton (isOpen : Bool) (trace : List BusEvent) (e : BusEvent) :
    traceOpen isOpen (trace ++ [e]) = (traceOpen isOpen trace).bind (busAfter · e) := by
  induction trace generalizing isOpen with
  | nil => cases h : busAfter isOpen e <;> simp [traceOpen, h]
  | cons x trace ih => cases h : busAfter isOpen x <;> simp [traceOpen, h, ih]

section Discipline

variable {s t : State}

/-- The trace is well bracketed and leaves a transaction open exactly while BUS_OPEN is 1 (R82). -/
def State.Bracketed (s : State) : Prop := traceOpen false s.trace = some s.busOpen

/-- For a command in flight the discipline is in force (R82). -/
theorem State.Disciplined.bracketed (hs : s.Disciplined) (hbusy : s.busy = true) : s.Bracketed := hs (.inl hbusy)

/-- A primitive that is allowed where the trace stands, and that BUS_OPEN follows, keeps the trace bracketed (R41, R82). -/
theorem State.Bracketed.append (hs : s.Bracketed) {e : BusEvent} (htrace : t.trace = s.trace ++ [e])
    (hopen : busAfter s.busOpen e = some t.busOpen) : t.Bracketed := by
  rw [State.Bracketed, htrace, traceOpen_append_singleton, hs, Option.bind_some, hopen]

/-- An entry issues its primitive where the primitive is allowed: a START outside a transaction, the others inside
one (R79, R82). -/
theorem State.Bracketed.runEntry (hs : s.Bracketed) {k : StepKind} (hopen : s.busOpen = k.insideTransaction) (c : Cmd) (i : Nat)
    (fin : State → Code × Word) : (s.runEntry c i fin k).Bracketed := by
  rcases s.runEntry_cases c i fin k with ⟨-, -, h⟩ | ⟨-, -, h⟩ | ⟨rfl, _, _, -, h⟩ | ⟨_, rfl, _, _, -, h⟩ |
    ⟨rfl, _, _, -, h⟩ | ⟨rfl, _, _, -, h⟩ | ⟨rfl, _, _, -, h⟩ | ⟨rfl, h⟩ | ⟨_, rfl, h⟩ | ⟨rfl, h⟩
  case inl | inr.inl => rwa [h]
  case inr.inr.inr.inr.inr.inr.inr.inr.inr => rwa [h]
  all_goals
    rw [h]
    refine hs.append
      (by simp only [State.follow_trace, State.advance_trace, State.setTemp_trace, State.busStop_trace]; rfl) ?_
    simp [hopen, StepKind.insideTransaction, busAfter]

end Discipline

/-- Settles O47: an accept begins an empty trace on an idle bus, an entry and the abort path's stop issue their primitive where
R82 allows it, FINISH adds nothing, and after the reset input nothing is claimed. -/
theorem stepKeepsBusDiscipline : Obligations.StepKeepsBusDiscipline := by
  unfold Obligations.StepKeepsBusDiscipline
  intro s t hs hdisc hstep
  have bracketed {q : Seq} (hseq : s.seq = q) (hq : q ≠ .idle) : s.popHost.Bracketed :=
    hdisc.bracketed (hs.busy_of_seq hseq hq)
  cases step_effect hstep with
  | quiet _ | overrun _ _ => exact hdisc
  | accept _ hbusy =>
    intro _
    rw [State.accept_trace, State.accept_busOpen, hs.busOpen_of_idle (hs.seq_of_not_busy hbusy)]
    rfl
  | @entry c i k hseq hk _ =>
    intro _
    refine (bracketed hseq (by simp)).runEntry ?_ c i (finOf c)
    rw [hs.busOpenMatchesSeq, hseq, owesStop_at_entry hk]
  | finish hseq _ => exact fun _ => bracketed hseq (by simp)
  | abortFinish hseq => exact fun _ => bracketed hseq (by simp)
  | abortStop hseq =>
    have hopen : s.busOpen = true := by rw [hs.busOpenMatchesSeq, hseq]; rfl
    exact fun _ => (bracketed hseq (by simp)).append (e := .stop) rfl (by simp [hopen, busAfter])
  | reset _ =>
    rintro (hbusy | hdone)
    · cases hbusy
    · cases hdone

end Sys2Proof.Machine

/-! ## The abort path, CHKP's FINISH, and the Trigger bit -/

namespace Sys2Proof.Machine

/-- With no host access the abort path takes its next step (R109). -/
theorem step_at_abort {s : State} {j : Fin 2} (hhost : s.host = []) (hseq : s.seq = .abort j) :
    step s = .next (s.abortStep j) := by
  rw [step_of_host_nil hhost, State.sequencerTurn_eq, hseq]

/-- Settles O22: the stop, and then the FINISH that loads no cache. -/
theorem abortPathStopsThenReportsBusError : Obligations.AbortPathStopsThenReportsBusError := by
  unfold Obligations.AbortPathStopsThenReportsBusError
  exact fun s hhost => ⟨step_at_abort hhost, step_at_abort hhost⟩

/-- Settles O23: entry 2 of CHKP's list is its FIN. -/
theorem chkpFinishes : Obligations.ChkpFinishes := by
  unfold Obligations.ChkpFinishes
  intro s hseq
  exact exec_at_entry (ins := .chkp) (k := .fin) hseq rfl

/-- The Trigger bit lies outside the Integration Time field CFG[6:4] (R34, R89). -/
theorem itCode_triggered (cfg : Byte) : itCode (triggered cfg) = itCode cfg := by
  have hdisjoint : Config.cfgTrig &&& Config.cfgItMask = 0#8 := rfl
  rw [itCode, itCode, triggered, BitVec.and_or_distrib_right, hdisjoint, BitVec.or_zero]

/-- Settles O31: lux_fin reads the cached byte through its Integration Time code alone. -/
theorem triggerBitKeepsTheGain : Obligations.TriggerBitKeepsTheGain := by
  unfold Obligations.TriggerBitKeepsTheGain
  intro g cfg
  exact ⟨by rw [luxFin, luxFin, itCode_triggered], itCode_triggered cfg⟩

end Sys2Proof.Machine

/-! ## Runs of a command with no further host access: from the accept, entry by entry, to its FINISH or through the abort path -/

namespace Sys2Proof.Machine

/-- The VSC is at entry i of c's list with the entries ks before it, and no host access comes (R36, R80). -/
structure State.Faces (s : State) (c : Cmd) (i : Nat) (ks : List StepKind) : Prop where
  host : s.host = []
  seq : s.seq = .run c i
  entries : (stepsOf c).drop i = ks

/-- The primitive that an entry with an outcome requests, but for that outcome (R79). -/
def State.request (s : State) : StepKind → Option (BusOutcome → BusEvent)
  | .start => some (.start Config.devAddr .write)
  | .wr x => some (.write (x.value s))
  | .rs => some (.restart Config.devAddr .read)
  | .rda | .rdn | .stop | .stopTo _ | .fin => none

/-- The state after entry i, a request, is answered OK; rest is what the transport answers later (R79). -/
def State.granted (s : State) (c : Cmd) (i : Nat) (k : StepKind) (req : BusOutcome → BusEvent) (rest : List BusOutcome) :
    State :=
  { s with
    outcomes := rest
    trace := s.trace ++ [req .ok]
    busOpen := openAfter s.busOpen k
    seq := .run c (i + 1) }

/-- The state after a request is answered FAIL and the abort path has run to its end (R79, R109). -/
def State.aborted (s : State) (req : BusOutcome → BusEvent) (rest : List BusOutcome) : State :=
  { s with
    outcomes := rest
    trace := s.trace ++ [req .fail] ++ [.stop]
    busOpen := false
    code := .busError
    result := 0
    busy := false
    done := true
    seq := .idle }

/-- The state after the five entries of a channel read that come before its stop: the code is sent, the direction is turned, and
the two bytes are latched (R57). -/
def State.countRead (s : State) (c : Cmd) (i : Nat) (code b0 b1 : Byte) (rest : List BusOutcome) (more : List Byte) : State :=
  { s with
    outcomes := rest
    bytes := more
    trace := s.trace ++
      [.start Config.devAddr .write .ok, .write code .ok, .restart Config.devAddr .read .ok, .read .ack b0, .read .nack b1]
    busOpen := true
    b0 := b0
    b1 := b1
    seq := .run c (i + 5) }

/-- What an accepted SETCFG or TRIG will write; another command leaves V alone (R27). -/
def State.payload (s : State) : Instr → Byte
  | .setcfg cfg => cfg
  | .trig => triggered s.cfgCache
  | .chkp | .rdch _ | .cct | .lux => s.v

/-- The state after the accept of an instruction by the host's last access (R27). -/
def State.accepted (s : State) (ins : Instr) : State :=
  { s with
    host := []
    op := ins.opcode
    arg := ins.argument
    rsv := 0
    hi := 0
    busy := true
    done := false
    ovr := false
    v := s.payload ins
    seq := .run (cmdOf ins) 0
    trace := [] }

section Runs

variable {s t : State} {c : Cmd} {i : Nat} {k : StepKind} {ks : List StepKind} {n : Nat} {r : Outcome}

/-- A run begins with its first step. -/
theorem run_succ_of_step (hstep : step s = .next t) (hrun : run n t = r) : run (n + 1) s = r := by
  rw [run, hstep]; exact hrun

/-- A ready VSC accepts a word that passes the decode check, and then faces its command's list (R22, R27). -/
theorem run_of_write (hready : s.Ready) {ins : Instr} {w : Word} (hhost : s.host = [.write 0x0 4 w])
    (hdecode : decode w = .ok ins)
    (hrun : (s.accepted ins).Faces (cmdOf ins) 0 (stepsOf (cmdOf ins)) → run n (s.accepted ins) = r) :
    run (n + 1) s = r := by
  obtain ⟨hbusy, hseq⟩ := hready
  obtain ⟨hwf, -⟩ := decode_eq_ok_iff.1 hdecode
  refine run_succ_of_step ?_ (hrun ⟨rfl, rfl, rfl⟩)
  rw [step_cmd_write hhost, State.writeCmd_of_decode (s := { s with host := [] }) hbusy hdecode,
    commandIsAcceptedAtIdle ins { s with host := [] } hwf hseq]
  cases ins <;> rfl

/-- A request, answered (R46 to R48, R79). -/
theorem State.runEntry_request {req : BusOutcome → BusEvent} (hreq : s.request k = some req) {o : BusOutcome}
    {rest : List BusOutcome} (ho : s.outcomes = o :: rest) (c : Cmd) (i : Nat) (fin : State → Code × Word) :
    s.runEntry c i fin k =
      { s with outcomes := rest, trace := s.trace ++ [req o], busOpen := openAfter s.busOpen k }.follow c i o := by
  cases k with
  | start => cases hreq; exact State.runEntry_start_answered ho c i fin
  | wr x => cases hreq; exact State.runEntry_wr_answered ho c i fin x
  | rs => cases hreq; exact State.runEntry_rs_answered ho c i fin
  | rda | rdn | stop | stopTo | fin => cases hreq

/-- RDA, answered (R49). -/
theorem State.runEntry_rda_answered {b : Byte} {more : List Byte} (hb : s.bytes = b :: more) (c : Cmd) (i : Nat)
    (fin : State → Code × Word) :
    s.runEntry c i fin .rda = { s with bytes := more, trace := s.trace ++ [BusEvent.read .ack b], b0 := b }.advance c i := by
  simp only [State.runEntry, State.busRead_answered hb]

/-- RDN, answered (R49). -/
theorem State.runEntry_rdn_answered {b : Byte} {more : List Byte} (hb : s.bytes = b :: more) (c : Cmd) (i : Nat)
    (fin : State → Code × Word) :
    s.runEntry c i fin .rdn = { s with bytes := more, trace := s.trace ++ [BusEvent.read .nack b], b1 := b }.advance c i := by
  simp only [State.runEntry, State.busRead_answered hb]

namespace State.Faces

/-- The sequencer takes the entry it faces (R37). -/
theorem step_eq (h : s.Faces c i (k :: ks)) : step s = .next (s.runEntry c i (finOf c) k) := by
  have hk : (stepsOf c)[i]? = some k := by rw [← List.head?_drop, h.entries, List.head?_cons]
  rw [step_of_host_nil h.host, State.sequencerTurn_eq, h.seq]
  exact State.runList_eq_next.2 ⟨k, hk, rfl⟩

/-- A run over an entry that goes on by one: the VSC then faces the entries left (R37). -/
theorem run_on (h : s.Faces c i (k :: ks)) (hentry : s.runEntry c i (finOf c) k = t) (hseq : t.seq = .run c (i + 1))
    (hrun : t.Faces c (i + 1) ks → run n t = r) : run (n + 1) s = r := by
  have hhost : t.host = [] := by rw [← hentry, State.runEntry_host, h.host]
  have hentries : (stepsOf c).drop (i + 1) = ks := by rw [← List.drop_drop, h.entries, List.drop_one, List.tail_cons]
  exact run_succ_of_step (hentry ▸ h.step_eq) (hrun ⟨hhost, hseq, hentries⟩)

/-- A run over a request that is answered OK (R79). -/
theorem run_ok (h : s.Faces c i (k :: ks)) {req : BusOutcome → BusEvent} (hreq : s.request k = some req)
    {rest : List BusOutcome} (ho : s.outcomes = .ok :: rest)
    (hrun : (s.granted c i k req rest).Faces c (i + 1) ks → run n (s.granted c i k req rest) = r) : run (n + 1) s = r :=
  h.run_on (State.runEntry_request hreq ho ..) rfl hrun

/-- A request answered FAIL: the abort path runs to its end, and the VSC is idle from then on (R79, R109, R110). -/
theorem run_fail (h : s.Faces c i (k :: ks)) {req : BusOutcome → BusEvent} (hreq : s.request k = some req)
    {rest : List BusOutcome} (ho : s.outcomes = .fail :: rest) : run (n + 3) s = .next (s.aborted req rest) := by
  have hfail : step s = _ := h.step_eq.trans (congrArg _ (State.runEntry_request hreq ho ..))
  refine run_succ_of_step hfail ?_
  refine run_succ_of_step (step_at_abort (j := 0) h.host rfl) ?_
  refine run_succ_of_step (step_at_abort (j := 1) h.host rfl) ?_
  exact run_at_idle (s := s.aborted req rest) h.host rfl n

/-- A run over a STOP (R50). -/
theorem run_stop (h : s.Faces c i (.stop :: ks))
    (hrun : (s.busStop.advance c i).Faces c (i + 1) ks → run n (s.busStop.advance c i) = r) : run (n + 1) s = r :=
  h.run_on rfl rfl hrun

/-- A run over a STOP>T (R40, R50). -/
theorem run_stopTo {T : Temp} (h : s.Faces c i (.stopTo T :: ks))
    (hrun : ((s.busStop.setTemp T s.count).advance c i).Faces c (i + 1) ks →
      run n ((s.busStop.setTemp T s.count).advance c i) = r) : run (n + 1) s = r :=
  h.run_on rfl rfl hrun

/-- FIN: FINISH, and the VSC is idle from then on (R81). -/
theorem run_fin (h : s.Faces c i [.fin]) :
    run (n + 1) s = .next (s.finish c.loadsCfg (finOf c s).1 (finOf c s).2) :=
  run_succ_of_step h.step_eq (run_at_idle (s := s.finish ..) h.host rfl n)

/-- A run over a channel read up to its stop, where the transport answers OK and two bytes (R57, R58). -/
theorem run_countRead {x : WrSource} (h : s.Faces c i (.start :: .wr x :: .rs :: .rda :: .rdn :: ks))
    {rest : List BusOutcome} (ho : s.outcomes = .ok :: .ok :: .ok :: rest) {b0 b1 : Byte} {more : List Byte}
    (hb : s.bytes = b0 :: b1 :: more)
    (hrun : (s.countRead c i (x.value s) b0 b1 rest more).Faces c (i + 5) ks →
      run n (s.countRead c i (x.value s) b0 b1 rest more) = r) : run (n + 5) s = r := by
  refine h.run_ok rfl ho fun h => h.run_ok rfl rfl fun h => h.run_ok rfl rfl fun h => ?_
  refine h.run_on (State.runEntry_rda_answered (by exact hb) ..) rfl fun h => h.run_on ?_ rfl hrun
  rw [State.runEntry_rdn_answered rfl]
  cases x <;> simp [State.countRead, State.granted, State.advance, openAfter, WrSource.value]

end State.Faces

end Runs

/-- Settles O33: the START and its answer, then the stop of either path, then the FINISH of either. -/
theorem chkpTraces : Obligations.ChkpTraces := by
  unfold Obligations.ChkpTraces
  intro s o rest hready hhost ho
  refine run_of_write hready hhost (ins := .chkp) (by decide) fun h => ?_
  cases o with
  | ok => exact h.run_ok rfl ho fun h => h.run_stop fun h => h.run_fin
  | fail => exact h.run_fail rfl ho

/-- The word with ARG and OP as written out bit by bit is the word of the instruction with these fields (R69). -/
theorem append_eq_encode {arg low : Byte} {ins : Instr} (harg : ins.argument = arg) (hlow : low = ins.opcode.setWidth 8) :
    0x0000#16 ++ arg ++ low = encode ins := by
  subst harg hlow
  refine (wordOf_eq_iff.2 ⟨?_, ?_, ?_, ?_⟩).symm
  all_goals
    ext n hn
    simp [wordHi, wordArg, wordRsv, wordOp]
    grind

/-- The four rows of a configuration write (R86, R90): a FAIL at each of its three requests, and three times OK. -/
theorem configWrite_rows {s : State} {w : Word} {ins : Instr} (hready : s.Ready) (hhost : s.host = [.write 0x0 4 w])
    (hdecode : decode w = .ok ins) (hins : (∃ cfg, ins = .setcfg cfg) ∨ ins = .trig) (rest : List BusOutcome) :
    (s.outcomes = .fail :: rest → ∃ t, run 6 s = .next t ∧
      t.trace = [.start 0x10 .write .fail, .stop] ∧
      t.visible = ⟨false, true, false, .busError, 0, s.cfgCache, .idle, false⟩ ∧ t.outcomes = rest) ∧
    (s.outcomes = .ok :: .fail :: rest → ∃ t, run 6 s = .next t ∧
      t.trace = [.start 0x10 .write .ok, .write 0x00 .fail, .stop] ∧
      t.visible = ⟨false, true, false, .busError, 0, s.cfgCache, .idle, false⟩ ∧ t.outcomes = rest) ∧
    (s.outcomes = .ok :: .ok :: .fail :: rest → ∃ t, run 6 s = .next t ∧
      t.trace = [.start 0x10 .write .ok, .write 0x00 .ok, .write (s.payload ins) .fail, .stop] ∧
      t.visible = ⟨false, true, false, .busError, 0, s.cfgCache, .idle, false⟩ ∧ t.outcomes = rest) ∧
    (s.outcomes = .ok :: .ok :: .ok :: rest → ∃ t, run 6 s = .next t ∧
      t.trace = [.start 0x10 .write .ok, .write 0x00 .ok, .write (s.payload ins) .ok, .stop] ∧
      t.visible = ⟨false, true, false, .ok, 0, s.payload ins, .idle, false⟩ ∧ t.outcomes = rest) := by
  have hrun {n : Nat} {t : State} := run_of_write (n := n) (r := .next t) hready hhost hdecode
  rcases hins with ⟨cfg, rfl⟩ | rfl
  all_goals
    refine ⟨fun ho => ⟨_, hrun fun h => h.run_fail rfl ho, rfl, rfl, rfl⟩,
      fun ho => ⟨_, hrun fun h => h.run_ok rfl ho fun h => h.run_fail rfl rfl, rfl, rfl, rfl⟩,
      fun ho => ⟨_, hrun fun h => h.run_ok rfl ho fun h => h.run_ok rfl rfl fun h => h.run_fail rfl rfl, rfl, rfl, rfl⟩,
      fun ho => ⟨_, hrun fun h => h.run_ok rfl ho fun h => h.run_ok rfl rfl fun h => h.run_ok rfl rfl fun h =>
        h.run_stop fun h => h.run_fin, rfl, rfl, rfl⟩⟩

/-- Settles O34: a configuration write of the word's own byte. -/
theorem setcfgTraces : Obligations.SetcfgTraces := by
  unfold Obligations.SetcfgTraces
  intro s cfg rest hready hhost
  have hword : 0x0000#16 ++ cfg ++ 0x02#8 = encode (.setcfg cfg) := append_eq_encode rfl rfl
  exact configWrite_rows hready hhost (decode_eq_ok_iff.2 ⟨rfl, hword.symm⟩) (.inl ⟨cfg, rfl⟩) rest

/-- Settles O35: a configuration write of the cached byte with its Trigger bit set. -/
theorem trigTraces : Obligations.TrigTraces := by
  unfold Obligations.TrigTraces
  intro s rest hready hhost
  exact configWrite_rows hready hhost (ins := .trig) (decode_eq_ok_iff.2 ⟨rfl, rfl⟩) (.inr rfl) rest

/-- Settles O36: a channel read of the word's own code, with a FAIL at each of its three requests or the two bytes. -/
theorem rdchTraces : Obligations.RdchTraces := by
  unfold Obligations.RdchTraces
  intro s code b0 b1 rest more hready hlo hhi hhost
  have hword : 0x0000#16 ++ code ++ 0x03#8 = encode (.rdch code) := append_eq_encode rfl rfl
  have hwf : (Instr.rdch code).wellFormed = true := (channelCodes_contains_iff code).2 ⟨hlo, hhi⟩
  have hrun {n : Nat} {t : State} :=
    run_of_write (n := n) (r := .next t) hready hhost (decode_eq_ok_iff.2 ⟨hwf, hword.symm⟩)
  exact ⟨fun ho => ⟨_, hrun fun h => h.run_fail rfl ho, rfl, rfl, rfl⟩,
    fun ho => ⟨_, hrun fun h => h.run_ok rfl ho fun h => h.run_fail rfl rfl, rfl, rfl, rfl⟩,
    fun ho => ⟨_, hrun fun h => h.run_ok rfl ho fun h => h.run_ok rfl rfl fun h => h.run_fail rfl rfl, rfl, rfl, rfl⟩,
    fun ho hb => ⟨_, hrun fun h => h.run_countRead ho hb fun h => h.run_stop fun h => h.run_fin, rfl, rfl, rfl⟩⟩

/-- Settles O38: three channel reads, each with three of the answers and two of the bytes, and then FINISH. -/
theorem cctFullTrace : Obligations.CctFullTrace := by
  unfold Obligations.CctFullTrace
  intro s r0 r1 g0 g1 b0 b1 rest more hready hhost ho hb
  exact ⟨_, run_of_write hready hhost (ins := .cct) (decode_eq_ok_iff.2 ⟨rfl, rfl⟩) fun h =>
    h.run_countRead ho hb fun h => h.run_stopTo fun h =>
    h.run_countRead rfl rfl fun h => h.run_stopTo fun h =>
    h.run_countRead rfl rfl fun h => h.run_stopTo fun h => h.run_fin, rfl, rfl, rfl, rfl⟩

end Sys2Proof.Machine

/-! ## The Integration Time gain, and LUX's FINISH -/

namespace Sys2Proof.Machine

/-- A command at its FIN entry finishes with the code and the result that its FINISH function computes (R81). -/
theorem exec_at_fin {ins : Instr} {s : State} {i : Nat} (hseq : s.seq = .run (cmdOf ins) i)
    (hfin : (stepsOf (cmdOf ins))[i]? = some .fin) {code : Code} {result : Word} (hout : finOf (cmdOf ins) s = (code, result)) :
    exec ins s = .next (s.finish (cmdOf ins).loadsCfg code result) := by
  rw [exec_at_entry hseq hfin, State.runEntry, hout]

/-- The Integration Time code is the field CFG[6:4], cut out of the byte (R34). -/
theorem extractLsb'_toNat_eq_itCode (cfg : Byte) : (cfg.extractLsb' 4 3).toNat = itCode cfg := by
  rw [itCode_eq_div_mod, BitVec.extractLsb'_toNat, Nat.shiftRight_eq_div_pow]

/-- GAIN_Q[k] as a quotient (R94). -/
theorem gainQ_eq_div (k : Nat) : gainQ k = 50336 / 2 ^ k := Nat.shiftRight_eq_div_pow ..

/-- lux_fin where the cached Integration Time has a gain (R93). -/
theorem luxFin_of_mapped (g : Half) {cfg : Byte} (hk : itCode cfg ≤ 5) :
    luxFin g cfg = (.ok, BitVec.ofNat 32 (g.toNat * gainQ (itCode cfg))) := if_neg (Nat.not_lt.2 hk)

/-- lux_fin where it has none (R93). -/
theorem luxFin_of_unmapped (g : Half) {cfg : Byte} (hk : 5 < itCode cfg) : luxFin g cfg = (.unmappedGain, 0xFFFFFFFF) :=
  if_pos hk

/-- The largest product is that of the largest count at the largest gain, which is below the sentinel (R94). -/
theorem lux_product_lt_sentinel (g : Half) (k : Nat) : g.toNat * gainQ k < 0xFFFFFFFF := by
  have hgain : gainQ k ≤ 50336 := by rw [gainQ_eq_div]; exact Nat.div_le_self ..
  calc g.toNat * gainQ k ≤ 65535 * 50336 := Nat.mul_le_mul (Nat.le_of_lt_succ g.isLt) hgain
    _ < 0xFFFFFFFF := by norm_num

/-- Settles O27: entry 6 of LUX's list is its FIN, where lux_fin reads the field CFG[6:4] as its Integration Time code. -/
theorem luxFinishes : Obligations.LuxFinishes := by
  unfold Obligations.LuxFinishes
  intro s hseq
  rw [extractLsb'_toNat_eq_itCode, ← gainQ_eq_div]
  refine ⟨fun hk => ⟨?mapped, lux_product_lt_sentinel ..⟩, fun hk => ?unmapped⟩
  case mapped => exact exec_at_fin (ins := .lux) hseq rfl (luxFin_of_mapped s.tmpG hk)
  case unmapped => exact exec_at_fin (ins := .lux) hseq rfl (luxFin_of_unmapped s.tmpG hk)

end Sys2Proof.Machine

/-! ## The digit search, and the integer criterion of CCT -/

namespace Sys2Proof.Machine

/-- The search over k binary digits finds the greatest number that meets a downward closed criterion, where acc meets it and
acc + 2^k does not. -/
theorem isGreatest_searchGreatest {meets : Nat → Bool} (hdown : ∀ {m n : Nat}, m ≤ n → meets n = true → meets m = true)
    (k : Nat) : ∀ acc : Nat, meets acc = true → meets (acc + 2 ^ k) = false →
      IsGreatest {n | meets n = true} (searchGreatest meets k acc) := by
  induction k with
  | zero =>
    intro acc hacc hover
    refine ⟨hacc, fun m hm => Nat.le_of_not_lt fun hlt => ?_⟩
    exact Bool.eq_false_iff.1 hover (hdown hlt hm)
  | succ k ih =>
    intro acc hacc hover
    rw [searchGreatest]
    cases hmid : meets (acc + 2 ^ k) with
    | true => exact ih _ hmid (by rwa [Nat.add_assoc, ← Nat.two_mul, ← Nat.pow_succ'])
    | false => exact ih _ hacc hmid

/-- R97's criterion, with the parameters of R8 by name. -/
theorem cctMeets_iff {p q n : Nat} :
    cctMeets p q n = true ↔
      (Config.cctADen * n) ^ Config.cctEDen * p ^ Config.cctENum ≤ Config.cctANum ^ Config.cctEDen * q ^ Config.cctENum := by
  rw [cctMeets, Nat.ble_eq]

/-- R97's criterion, with the numbers of R8. -/
theorem cctMeets_iff_numerals {p q n : Nat} :
    cctMeets p q n = true ↔ (10 * n) ^ 2000 * p ^ 2491 ≤ 42786 ^ 2000 * q ^ 2491 := by
  rw [cctMeets_iff, Config.cctADen, Config.cctEDen, Config.cctENum, Config.cctANum]

/-- 0 meets the criterion (R97). -/
theorem cctMeets_zero (p q : Nat) : cctMeets p q 0 = true := by
  have hpos : 0 < Config.cctEDen := by decide
  rw [cctMeets_iff, Nat.mul_zero, Nat.zero_pow hpos, Nat.zero_mul]
  exact Nat.zero_le _

/-- The criterion is downward closed (R97). -/
theorem cctMeets_of_le {p q m n : Nat} (hle : m ≤ n) (hn : cctMeets p q n = true) : cctMeets p q m = true := by
  rw [cctMeets_iff] at hn ⊢
  exact le_trans (by gcongr) hn

/-- A comparison of two products with the powers p^e and q^e stays true for a ratio q'/p' that is no smaller: both sides are
multiplied by p^e. -/
theorem mul_pow_le_mul_pow_of_ratio_le {x a e p q p' q' : Nat} (hp : 0 < p) (hratio : q * p' ≤ q' * p)
    (hle : x * p ^ e ≤ a * q ^ e) : x * p' ^ e ≤ a * q' ^ e := by
  refine Nat.le_of_mul_le_mul_right ?_ (Nat.pow_pos (n := e) hp)
  calc x * p' ^ e * p ^ e = x * p ^ e * p' ^ e := Nat.mul_right_comm ..
    _ ≤ a * q ^ e * p' ^ e := Nat.mul_le_mul_right _ hle
    _ = a * (q * p') ^ e := by rw [Nat.mul_assoc, ← Nat.mul_pow]
    _ ≤ a * (q' * p) ^ e := Nat.mul_le_mul_left _ (Nat.pow_le_pow_left hratio _)
    _ = a * q' ^ e * p ^ e := by rw [Nat.mul_assoc, ← Nat.mul_pow]

/-- A number that meets the criterion for one ratio q/p meets it for every ratio that is no smaller (R97). -/
theorem cctMeets_of_ratio_le {p q p' q' n : Nat} (hp : 0 < p) (hratio : q * p' ≤ q' * p) (hn : cctMeets p q n = true) :
    cctMeets p' q' n = true :=
  cctMeets_iff.2 (mul_pow_le_mul_pow_of_ratio_le hp hratio (cctMeets_iff.1 hn))

/-- The criterion reads p and q through their ratio alone (R96). -/
theorem cctMeets_congr_ratio {p q p' q' : Nat} (hp : 0 < p) (hp' : 0 < p') (hratio : p * q' = p' * q) :
    cctMeets p' q' = cctMeets p q := by
  have hle : q * p' = q' * p := by rw [Nat.mul_comm q, ← hratio, Nat.mul_comm p]
  funext n
  exact Bool.eq_iff_iff.2 ⟨cctMeets_of_ratio_le hp' hle.ge, cctMeets_of_ratio_le hp hle.le⟩

/-- The largest ratio of 16-bit counts leaves 2^34 out (95_test_vectors V8). -/
theorem not_cctMeets_largest_ratio : cctMeets 1 131070 (2 ^ Config.cctBits) = false := by decide +kernel

/-- 2^32 meets the criterion at the ratio of p = 1 and G = 32934 (R98). -/
theorem cctMeets_saturating_ratio : cctMeets 1 65868 (2 ^ 32) = true := by decide +kernel

/-- 2^32 does not meet it at the ratio of p = 1 and G = 32933 (R98). -/
theorem not_cctMeets_below_saturating_ratio : cctMeets 1 65866 (2 ^ 32) = false := by decide +kernel

/-- For 16-bit counts with positive p, cct_exact is the greatest number that meets R97's criterion. -/
theorem isGreatest_cctExact {p q : Nat} (hp : 0 < p) (hq : q ≤ 131070) :
    IsGreatest {n | cctMeets p q n = true} (cctExact p q) := by
  refine isGreatest_searchGreatest cctMeets_of_le _ 0 (cctMeets_zero p q) (Bool.eq_false_iff.2 fun hover => ?_)
  have hratio : q * 1 ≤ 131070 * p := by omega
  rw [Nat.zero_add] at hover
  exact Bool.eq_false_iff.1 not_cctMeets_largest_ratio (cctMeets_of_ratio_le hp hratio hover)

/-- A number is at most cct_exact exactly where it meets the criterion (R97). -/
theorem le_cctExact_iff {p q n : Nat} (hp : 0 < p) (hq : q ≤ 131070) : n ≤ cctExact p q ↔ cctMeets p q n = true := by
  obtain ⟨hmeets, hgreatest⟩ := isGreatest_cctExact hp hq
  exact ⟨fun hle => cctMeets_of_le hle hmeets, fun hn => hgreatest hn⟩

/-- Settles O29: above 0xFFFFFFFF is at least 2^32, which the criterion admits at the ratio 65868 and not at 65866; with p = 2 and
more the ratio of 16-bit counts is below that. -/
theorem cctSaturatesOnlyAtPOne : Obligations.CctSaturatesOnlyAtPOne := by
  unfold Obligations.CctSaturatesOnlyAtPOne
  intro p g hp _ hg
  rw [← Nat.succ_le_iff, le_cctExact_iff hp (by omega)]
  constructor
  · intro hmeets
    have hratio : 65866 * p < 2 * g * 1 := Nat.lt_of_not_le fun hle =>
      Bool.eq_false_iff.1 not_cctMeets_below_saturating_ratio (cctMeets_of_ratio_le hp hle hmeets)
    omega
  · rintro ⟨rfl, hsat⟩
    exact cctMeets_of_ratio_le Nat.one_pos (by omega) cctMeets_saturating_ratio

end Sys2Proof.Machine

/-! ## CCT's FINISH -/

namespace Sys2Proof.Machine

section CctFin

variable {r g b r' g' b' : Half}

/-- cct_fin for Green 0, whatever p is (R99). -/
theorem cctFin_of_green_zero (hg : g.toNat = 0) : cctFin r g b = (.divFault, 0) := if_pos hg

/-- cct_fin for p <= 0 and a Green count (R99). -/
theorem cctFin_of_nonpos (hg : g.toNat ≠ 0) (hp : cctP r g b ≤ 0) : cctFin r g b = (.cctDomain, 0) := by
  rw [cctFin, if_neg hg, if_pos hp]

/-- cct_fin for positive p and a Green count: the exact value, saturated (R98, R99). -/
theorem cctFin_of_pos (hg : g.toNat ≠ 0) (hp : 0 < cctP r g b) :
    cctFin r g b = (.ok, BitVec.ofNat 32 (min (cctExact (cctP r g b).toNat (cctQ g)) 0xFFFFFFFF)) := by
  rw [cctFin, if_neg hg, if_neg hp.not_ge, Config.cctSat]

/-- q of a 16-bit Green count (R96). -/
theorem cctQ_le (g : Half) : cctQ g ≤ 131070 := by rw [cctQ]; have := g.isLt; omega

/-- cct_exact reads p and q through their ratio alone (R96, R97). -/
theorem cctExact_congr_ratio {p q p' q' : Nat} (hp : 0 < p) (hp' : 0 < p') (hratio : p * q' = p' * q) :
    cctExact p' q' = cctExact p q := by
  rw [cctExact, cctExact, cctMeets_congr_ratio hp hp' hratio]

/-- Where neither Green count is 0, equal ratios p/q have p of one sign, and then one code and one result (R96, R99). -/
theorem cctFin_congr_ratio (hg : g.toNat ≠ 0) (hg' : g'.toNat ≠ 0)
    (hratio : cctP r g b * (cctQ g' : Int) = cctP r' g' b' * (cctQ g : Int)) : cctFin r' g' b' = cctFin r g b := by
  have hq : (0 : Int) < cctQ g := by rw [cctQ]; omega
  have hq' : (0 : Int) < cctQ g' := by rw [cctQ]; omega
  have hsign : 0 < cctP r g b ↔ 0 < cctP r' g' b' := by
    rw [← mul_pos_iff_of_pos_right hq', hratio, mul_pos_iff_of_pos_right hq]
  rcases lt_or_ge 0 (cctP r g b) with hp | hp
  · have hp' : 0 < cctP r' g' b' := hsign.1 hp
    have hnat : (cctP r g b).toNat * cctQ g' = (cctP r' g' b').toNat * cctQ g := by
      zify; rwa [Int.toNat_of_nonneg hp.le, Int.toNat_of_nonneg hp'.le]
    rw [cctFin_of_pos hg hp, cctFin_of_pos hg' hp', cctExact_congr_ratio (by omega) (by omega) hnat]
  · rw [cctFin_of_nonpos hg hp, cctFin_of_nonpos hg' (not_lt.1 (mt hsign.2 hp.not_gt))]

end CctFin

/-- Settles O28: entry 18 of CCT's list is its FIN, where cct_fin looks at Green, then at p, and then takes the greatest number of
the search. -/
theorem cctFinishes : Obligations.CctFinishes := by
  unfold Obligations.CctFinishes
  intro s p hseq hp
  have hp : p = cctP s.tmpR s.tmpG s.tmpB := hp
  have hexec {code : Code} {result : Word} := exec_at_fin (ins := .cct) (code := code) (result := result) hseq rfl
  subst hp
  refine ⟨fun hg => ?divFault, fun hg hp => ?domain, fun hg hp => ?ok⟩
  case divFault => exact hexec (cctFin_of_green_zero (by rw [hg]; rfl))
  case domain => exact hexec (cctFin_of_nonpos (BitVec.toNat_ne.1 hg) hp)
  case ok =>
    obtain ⟨hmeets, hgreatest⟩ := isGreatest_cctExact (p := (cctP s.tmpR s.tmpG s.tmpB).toNat) (by omega) (cctQ_le s.tmpG)
    have hcriterion (n : Nat) := cctMeets_iff_numerals (p := (cctP s.tmpR s.tmpG s.tmpB).toNat) (q := 2 * s.tmpG.toNat) (n := n)
    exact ⟨_, (hcriterion _).1 hmeets, fun m hm => hgreatest ((hcriterion m).2 hm), hexec (cctFin_of_pos (BitVec.toNat_ne.1 hg) hp)⟩

/-- Settles O30: scaled counts have equal cross products too, and a scaled Green count is 0 only where the other is. -/
theorem cctDependsOnlyOnRatio : Obligations.CctDependsOnlyOnRatio := by
  unfold Obligations.CctDependsOnlyOnRatio
  intro r g b r' g' b'
  refine ⟨fun p p' hg hg' hp hp' hratio => ?ratio, fun k hk hr hg hb => ?scaled⟩
  case ratio =>
    refine cctFin_congr_ratio (BitVec.toNat_ne.1 hg) (BitVec.toNat_ne.1 hg') ?_
    rw [cctP, cctP, cctQ, cctQ, ← hp, ← hp']
    exact_mod_cast hratio
  case scaled =>
    rcases eq_or_ne g.toNat 0 with hzero | hne
    · rw [cctFin_of_green_zero hzero, cctFin_of_green_zero (by rw [hg, hzero, Nat.mul_zero])]
    · refine cctFin_congr_ratio hne (by rw [hg]; exact Nat.mul_ne_zero hk.ne' hne) ?_
      rw [cctP, cctP, cctQ, cctQ, hr, hg, hb]
      push_cast
      ring

end Sys2Proof.Machine

/-! ## LUX's traces, and the failing traces of a command that reads one channel after another -/

namespace Sys2Proof.Machine

/-- Settles O37: the Green read, with a FAIL at each of its three requests or the two bytes. -/
theorem luxTraces : Obligations.LuxTraces := by
  unfold Obligations.LuxTraces
  intro s b0 b1 rest more hready hhost
  have hrun {n : Nat} {t : State} :=
    run_of_write (n := n) (r := .next t) hready hhost (ins := .lux) (decode_eq_ok_iff.2 ⟨rfl, rfl⟩)
  exact ⟨fun ho => ⟨_, hrun fun h => h.run_fail rfl ho, rfl, rfl⟩,
    fun ho => ⟨_, hrun fun h => h.run_ok rfl ho fun h => h.run_fail rfl rfl, rfl, rfl⟩,
    fun ho => ⟨_, hrun fun h => h.run_ok rfl ho fun h => h.run_ok rfl rfl fun h => h.run_fail rfl rfl, rfl, rfl⟩,
    fun ho hb => ⟨_, hrun fun h => h.run_countRead ho hb fun h => h.run_stopTo fun h => h.run_fin, rfl, rfl, rfl⟩⟩

/-- The state after a completed channel read into T (R57, R80). -/
def State.channelRead (s : State) (c : Cmd) (i : Nat) (code b0 b1 : Byte) (T : Temp) (rest : List BusOutcome)
    (more : List Byte) : State :=
  ((s.countRead c i code b0 b1 rest more).busStop.setTemp T (combine b0 b1)).advance c (i + 5)

section ChannelReadFields

variable (s : State) (c : Cmd) (i : Nat) (code b0 b1 : Byte) (T : Temp) (rest : List BusOutcome) (more : List Byte)

@[simp] theorem State.channelRead_host : (s.channelRead c i code b0 b1 T rest more).host = s.host :=
  State.setTemp_host ..
@[simp] theorem State.channelRead_outcomes : (s.channelRead c i code b0 b1 T rest more).outcomes = rest :=
  State.setTemp_outcomes ..
@[simp] theorem State.channelRead_bytes : (s.channelRead c i code b0 b1 T rest more).bytes = more :=
  State.setTemp_bytes ..
@[simp] theorem State.channelRead_ovr : (s.channelRead c i code b0 b1 T rest more).ovr = s.ovr :=
  State.setTemp_ovr ..
@[simp] theorem State.channelRead_cfgCache : (s.channelRead c i code b0 b1 T rest more).cfgCache = s.cfgCache :=
  State.setTemp_cfgCache ..
/-- A completed channel read has six primitives (R57). -/
@[simp] theorem State.channelRead_trace_length :
    (s.channelRead c i code b0 b1 T rest more).trace.length = s.trace.length + 6 := by
  simp [State.channelRead, State.countRead]

end ChannelReadFields

/-- From s, in channel reads, a command has ended in t with answer number n (from 0) as the first FAIL: six primitives for each
read completed, n mod 3 answered OK in the failing read, then the failing one and its stop (R101, R115). -/
structure State.FailedAt (s t : State) (n : Nat) (rest : List BusOutcome) : Prop where
  length : t.trace.length = s.trace.length + (6 * (n / 3) + (n % 3 + 2))
  last : t.trace.getLast? = some .stop
  visible : t.visible = ⟨false, true, s.ovr, .busError, 0, s.cfgCache, .idle, false⟩
  outcomes : t.outcomes = rest
  bytes : t.bytes = s.bytes.drop (2 * (n / 3))

section ChannelReads

variable {s u : State} {c : Cmd} {i n : Nat} {code : Byte} {T : Temp} {ks : List StepKind} {rest : List BusOutcome}

/-- A command aborted inside its first read, by the request after n granted ones, has failed at answer n (R109). -/
theorem State.failedAt_aborted (hn : n < 3) (htrace : u.trace.length = s.trace.length + n) (hovr : u.ovr = s.ovr)
    (hcache : u.cfgCache = s.cfgCache) (hbytes : u.bytes = s.bytes) (req : BusOutcome → BusEvent) :
    s.FailedAt (u.aborted req rest) n rest where
  length := by simp [State.aborted, htrace, Nat.div_eq_of_lt hn, Nat.mod_eq_of_lt hn]; omega
  last := by simp [State.aborted]
  visible := by simp [State.visible, State.aborted, hovr, hcache]
  outcomes := rfl
  bytes := by simp [State.aborted, hbytes, Nat.div_eq_of_lt hn]

/-- A channel read with its first FAIL at answer n < 3, and the VSC idle from then on (R57, R109). -/
theorem State.Faces.run_read_fail (h : s.Faces c i (readInto code T ++ ks)) (hn : n < 3)
    (ho : s.outcomes = List.replicate n .ok ++ .fail :: rest) (k : Nat) :
    ∃ t, run (k + 5) s = .next t ∧ s.FailedAt t n rest := by
  match n with
  | 0 => exact ⟨_, h.run_fail rfl ho, State.failedAt_aborted hn rfl rfl rfl rfl _⟩
  | 1 =>
    exact ⟨_, h.run_ok rfl ho fun h => h.run_fail rfl rfl,
      State.failedAt_aborted (s := s) (u := s.granted ..) hn (by simp [State.granted]) rfl rfl rfl _⟩
  | 2 =>
    exact ⟨_, h.run_ok rfl ho fun h => h.run_ok rfl rfl fun h => h.run_fail rfl rfl,
      State.failedAt_aborted (s := s) (u := (s.granted ..).granted ..) hn (by simp [State.granted]) rfl rfl rfl _⟩

/-- A channel read that the transport answers OK takes six turns, and leads to the entries after it (R57, R80). -/
theorem State.Faces.run_channelRead (h : s.Faces c i (readInto code T ++ ks))
    (ho : s.outcomes = .ok :: .ok :: .ok :: rest) {b0 b1 : Byte} {more : List Byte} (hb : s.bytes = b0 :: b1 :: more) :
    (s.channelRead c i code b0 b1 T rest more).Faces c (i + 6) ks ∧
      ∀ k, run (k + 6) s = run k (s.channelRead c i code b0 b1 T rest more) := by
  refine ⟨⟨?_, rfl, ?_⟩, fun k => h.run_countRead ho hb fun h => h.run_stopTo fun _ => rfl⟩
  · rw [State.channelRead_host, h.host]
  · rw [← List.drop_drop, h.entries]; rfl

/-- A failure at answer n after a completed read is a failure at answer n + 3 from before that read (R101). -/
theorem State.FailedAt.of_channelRead {b0 b1 : Byte} {before : List BusOutcome} {more : List Byte} {t : State}
    (hb : s.bytes = b0 :: b1 :: more) (h : (s.channelRead c i code b0 b1 T before more).FailedAt t n rest) :
    s.FailedAt t (n + 3) rest where
  length := by rw [h.length, State.channelRead_trace_length]; omega
  last := h.last
  visible := by simpa using h.visible
  outcomes := h.outcomes
  bytes := by
    have hdiv : 2 * ((n + 3) / 3) = 2 * (n / 3) + 2 := by omega
    rw [h.bytes, hb, State.channelRead_bytes, hdiv]; rfl

/-- Where at least two bytes are to come, the first two can be named. -/
theorem exists_two_bytes {bytes : List Byte} (hlength : 2 ≤ bytes.length) : ∃ b0 b1 more, bytes = b0 :: b1 :: more := by
  match bytes, hlength with
  | b0 :: b1 :: more, _ => exact ⟨b0, b1, more, rfl⟩

/-- A command that reads one channel after another, with its first FAIL among the reads' answers (R101, R115): by induction on the
channels still to be read. -/
theorem State.Faces.run_reads_fail {channels : List (Byte × Temp)}
    (h : s.Faces c i (channels.flatMap (fun ch => readInto ch.1 ch.2) ++ [.fin])) (hn : n < 3 * channels.length)
    (hbytes : 2 * channels.length ≤ s.bytes.length) (ho : s.outcomes = List.replicate n .ok ++ .fail :: rest) :
    ∃ t, run (6 * channels.length + 1) s = .next t ∧ s.FailedAt t n rest := by
  induction channels generalizing s i n with
  | nil => exact absurd hn (Nat.not_lt_zero n)
  | cons ch channels ih =>
    rw [List.flatMap_cons, List.append_assoc] at h
    rw [List.length_cons] at hn hbytes ⊢
    rcases Nat.lt_or_ge n 3 with hlt | hge
    · exact h.run_read_fail hlt ho (6 * channels.length + 2)
    · obtain ⟨m, rfl⟩ := Nat.exists_eq_add_of_le' hge
      obtain ⟨b0, b1, more, hb⟩ := exists_two_bytes (bytes := s.bytes) (by omega)
      have hmore : 2 * channels.length ≤ more.length := by rw [hb] at hbytes; simpa [Nat.mul_add] using hbytes
      obtain ⟨hfaces, hreads⟩ := h.run_channelRead (rest := List.replicate m .ok ++ .fail :: rest) (by rw [ho]; rfl) hb
      obtain ⟨t, hrun, hfailed⟩ := ih (n := m) hfaces (by omega) (by simpa using hmore) (State.channelRead_outcomes ..)
      exact ⟨t, (hreads _).trans hrun, hfailed.of_channelRead hb⟩

end ChannelReads

/-- Settles O39: CCT reads the Red, the Green and the Blue channel one after another. -/
theorem cctFailingTraces : Obligations.CctFailingTraces := by
  unfold Obligations.CctFailingTraces
  intro s n rest hready hhost hn hbytes ho
  have hfaces : (s.accepted .cct).Faces .cct 0 cctSteps := ⟨rfl, rfl, rfl⟩
  have haccept : run 20 s = run 19 (s.accepted .cct) :=
    run_of_write hready hhost (decode_eq_ok_iff.2 ⟨rfl, rfl⟩) fun _ => rfl
  obtain ⟨t, hrun, hfailed⟩ := State.Faces.run_reads_fail
    (channels := [(Config.cmdRed, .red), (Config.cmdGreen, .green), (Config.cmdBlue, .blue)]) hfaces hn hbytes ho
  refine ⟨t, haccept.trans hrun, ?_, hfailed.last, hfailed.visible, hfailed.outcomes, hfailed.bytes⟩
  simpa [State.accepted] using hfailed.length

end Sys2Proof.Machine

/-! ## A command issued by the host: the sequencer's turns against a run, whatever else the host has to come -/

namespace Sys2Proof.Machine

/-- The state with other coming events of the host (R9, log entry 2). -/
def State.withHost (s : State) (events : List HostEvent) : State := { s with host := events }

@[simp] theorem State.withHost_host (s : State) (events : List HostEvent) : (s.withHost events).host = events := rfl
@[simp] theorem State.withHost_seq (s : State) (events : List HostEvent) : (s.withHost events).seq = s.seq := rfl
@[simp] theorem State.withHost_code (s : State) (events : List HostEvent) : (s.withHost events).code = s.code := rfl
@[simp] theorem State.withHost_self (s : State) : s.withHost s.host = s := rfl

section Entry

variable (s : State) (c : Cmd) (i : Nat) (k : StepKind) (events : List HostEvent)

/-- What an entry requests is formed from the VSC's registers alone (R79). -/
theorem State.request_withHost : (s.withHost events).request k = s.request k := by
  cases k with
  | wr x => cases x <;> rfl
  | start | rs | rda | rdn | stop | stopTo | fin => rfl

/-- FINISH's pair is computed from the VSC's registers alone (R81). -/
theorem finOf_withHost : finOf c (s.withHost events) = finOf c s := by
  cases c <;> rfl

/-- An entry neither reads nor writes the host's coming events: it waits, or does what its answer says (R9, R79). -/
theorem State.runEntry_withHost :
    (s.withHost events).runEntry c i (finOf c) k = (s.runEntry c i (finOf c) k).withHost events := by
  have hwait (h : s.Unanswered k) :
      (s.withHost events).runEntry c i (finOf c) k = (s.runEntry c i (finOf c) k).withHost events := by
    rw [h.runEntry, State.Unanswered.runEntry (s := s.withHost events) h]
  have hrequest {req : BusOutcome → BusEvent} (hreq : s.request k = some req) (hask : k.takesOutcome = true) :
      (s.withHost events).runEntry c i (finOf c) k = (s.runEntry c i (finOf c) k).withHost events := by
    cases ho : s.outcomes with
    | nil => exact hwait (.inl ⟨hask, ho⟩)
    | cons o rest =>
      have hreq' : (s.withHost events).request k = some req := by rw [State.request_withHost, hreq]
      rw [State.runEntry_request hreq ho, State.runEntry_request (s := s.withHost events) hreq' ho]
      cases o <;> rfl
  cases k with
  | start | wr | rs => exact hrequest rfl rfl
  | rda | rdn =>
    cases hb : s.bytes with
    | nil => exact hwait (.inr ⟨rfl, hb⟩)
    | cons b more =>
      simp only [State.runEntry, State.busRead_answered hb, State.busRead_answered (s := s.withHost events) hb]
      rfl
  | stop => rfl
  | stopTo T => cases T <;> rfl
  | fin => rw [State.runEntry_fin, State.runEntry_fin, finOf_withHost]; rfl

end Entry

section Issue

variable {s t : State} {w : Word} {n : Nat}

/-- The sequencer's turn neither reads nor writes the host's coming events (R9). -/
theorem State.sequencerTurn_withHost (h : s.sequencerTurn = .next t) (events : List HostEvent) :
    (s.withHost events).sequencerTurn = .next (t.withHost events) := by
  rw [State.sequencerTurn_eq] at h
  rw [State.sequencerTurn_eq, State.withHost_seq]
  rcases hseq : s.seq with _ | ⟨c, i⟩ | j
  · rw [hseq] at h
    cases h; rfl
  · rw [hseq] at h
    obtain ⟨k, hk, rfl⟩ := State.runList_eq_next.1 h
    exact State.runList_eq_next.2 ⟨k, hk, (s.runEntry_withHost c i k events).symm⟩
  · rw [hseq] at h
    cases h
    match j with
    | 0 => rfl
    | 1 => rfl

/-- Where nothing more comes from the host, the sequencer leaves it so (R9). -/
theorem State.sequencerTurn_host_nil (h : s.sequencerTurn = .next t) (hhost : s.host = []) : t.host = [] := by
  have hself : s.withHost [] = s := by rw [← hhost, State.withHost_self]
  have hturn := State.sequencerTurn_withHost h []
  rw [hself, h] at hturn
  exact congrArg State.host (Host.Outcome.next.inj hturn)

/-- A ready VSC accepts the word that the host writes as its last event (R22, R27). -/
theorem step_last_write (hready : s.Ready) (w : Word) :
    step (s.withHost [.write 0x0 4 w]) = .next ((s.withHost []).accept w) :=
  (step_cmd_write (State.withHost_host ..)).trans (State.writeCmd_of_idle (s := s.withHost []) hready.1 hready.2 w)

/-- A run that goes on has a first step. -/
theorem exists_step_of_run_succ (hrun : run (n + 1) s = .next t) : ∃ u, step s = .next u ∧ run n u = .next t := by
  rw [run] at hrun
  cases hstep : step s with
  | next u => exact ⟨u, rfl, by rwa [hstep] at hrun⟩
  | fault f => rw [hstep] at hrun; cases hrun
  | refused r => rw [hstep] at hrun; cases hrun

/-- A run with nothing from the host is as many turns of the sequencer, the same whatever the host has to come (R9). -/
theorem sequencerTurns_of_run (hhost : s.host = []) (hrun : run n s = .next t) (events : List HostEvent) :
    sequencerTurns n (s.withHost events) = .next (t.withHost events) := by
  induction n generalizing s with
  | zero => cases hrun; rfl
  | succ n ih =>
    obtain ⟨u, hstep, hrest⟩ := exists_step_of_run_succ hrun
    rw [step_of_host_nil hhost] at hstep
    rw [sequencerTurns, State.sequencerTurn_withHost hstep events]
    exact ih (State.sequencerTurn_host_nil hstep hhost) hrest

/-- A run in which nothing more comes from the host leaves it so (R9). -/
theorem run_host_nil (hrun : run n s = .next t) (hhost : s.host = []) : t.host = [] := by
  induction n generalizing s with
  | zero => cases hrun; exact hhost
  | succ n ih =>
    obtain ⟨u, hstep, hrest⟩ := exists_step_of_run_succ hrun
    rw [step_of_host_nil hhost] at hstep
    exact ih hrest (State.sequencerTurn_host_nil hstep hhost)

/-- A run that has come to IDLE, with nothing more from the host, stays there (R125). -/
theorem run_add_of_idle (hrun : run n s = .next t) (hhost : t.host = []) (hseq : t.seq = .idle) (m : Nat) :
    run (n + m) s = .next t := by
  induction n generalizing s with
  | zero => cases hrun; rw [Nat.zero_add]; exact run_at_idle hhost hseq m
  | succ n ih =>
    obtain ⟨u, hstep, hrest⟩ := exists_step_of_run_succ hrun
    rw [Nat.add_right_comm]
    exact run_succ_of_step hstep (ih hrest)

/-- A ready VSC does with an issued word what it does in a run where the word's write is the host's last event (R37, R76). -/
theorem issue_of_run (hready : s.Ready) (hrun : run (longestCommand + 1) (s.withHost [.write 0x0 4 w]) = .next t) :
    issue w s = .next (t.withHost s.host) := by
  obtain ⟨u, hstep, hrest⟩ := exists_step_of_run_succ hrun
  cases (step_last_write hready w).symm.trans hstep
  rw [issue, State.hostWrite, State.writeCmd_of_idle hready.1 hready.2]
  exact sequencerTurns_of_run (s := (s.withHost []).accept w) rfl hrest s.host

/-- A run of fewer steps will do where it has come to IDLE (R37, R125). -/
theorem issue_of_ended_run (hready : s.Ready) (hrun : run (n + 1) (s.withHost [.write 0x0 4 w]) = .next t)
    (hidle : t.seq = .idle) (hn : n ≤ longestCommand) : issue w s = .next (t.withHost s.host) := by
  obtain ⟨u, hstep, hrest⟩ := exists_step_of_run_succ hrun
  cases (step_last_write hready w).symm.trans hstep
  obtain ⟨m, hm⟩ := Nat.exists_eq_add_of_le hn
  refine issue_of_run hready (run_succ_of_step (step_last_write hready w) ?_)
  rw [hm]
  exact run_add_of_idle hrest (run_host_nil hrest rfl) hidle m

end Issue

end Sys2Proof.Machine

/-! ## Retried configuration writes: what an attempt leaves, and that failed attempts leave nothing -/

namespace Sys2Proof.Machine

/-- What the host sees of a VSC whose command has ended with RESULT 0 and without an overrun (R81, R110). -/
def Visible.ended (code : Code) (cache : Byte) : Visible := ⟨false, true, false, code, 0, cache, .idle, false⟩

section ConfigWrite

variable {s t : State} {ins : Instr}

/-- At an entry whose answer does not come the VSC waits for any number of steps (R52). -/
theorem State.Faces.run_unanswered {c : Cmd} {i : Nat} {k : StepKind} {ks : List StepKind} (h : s.Faces c i (k :: ks))
    (hun : s.Unanswered k) (n : Nat) : run n s = .next s :=
  run_of_step_self (h.step_eq.trans (congrArg _ (hun.runEntry ..))) n

/-- SETCFG and TRIG have no operand that the encoding lacks (R35, R72). -/
theorem decode_encode_configWrite (hins : (∃ cfg, ins = .setcfg cfg) ∨ ins = .trig) : decode (encode ins) = .ok ins :=
  decode_encode_of_wellFormed (by rcases hins with ⟨cfg, rfl⟩ | rfl <;> rfl)

/-- SETCFG and TRIG have one step list (R80). -/
theorem stepsOf_configWrite (hins : (∃ cfg, ins = .setcfg cfg) ∨ ins = .trig) : stepsOf (cmdOf ins) = setcfgSteps := by
  rcases hins with ⟨cfg, rfl⟩ | rfl <;> rfl

/-- V depends on nothing of the state but the cache (R27). -/
theorem State.payload_configWrite (hins : (∃ cfg, ins = .setcfg cfg) ∨ ins = .trig) (hcache : t.cfgCache = s.cfgCache) :
    t.payload ins = s.payload ins := by
  rcases hins with ⟨cfg, rfl⟩ | rfl
  · rfl
  · exact congrArg triggered hcache

/-- With fewer than three answers, all OK, a configuration write waits at its next request (R52, R86, R90). -/
theorem configWrite_waits (hready : s.Ready) (hhost : s.host = [.write 0x0 4 (encode ins)])
    (hins : (∃ cfg, ins = .setcfg cfg) ∨ ins = .trig)
    (ho : s.outcomes = [] ∨ s.outcomes = [.ok] ∨ s.outcomes = [.ok, .ok]) :
    ∃ t, run (longestCommand + 1) s = .next t ∧ t.busy = true := by
  have hrun {n : Nat} {t : State} (h : (s.accepted ins).Faces (cmdOf ins) 0 setcfgSteps → run n (s.accepted ins) = .next t) :
      run (n + 1) s = .next t :=
    run_of_write hready hhost (decode_encode_configWrite hins) fun hfaces => h (stepsOf_configWrite hins ▸ hfaces)
  rcases ho with ho | ho | ho
  · exact ⟨_, hrun fun h => h.run_unanswered (.inl ⟨rfl, ho⟩) _, rfl⟩
  · exact ⟨_, hrun fun h => h.run_ok rfl ho fun h => h.run_unanswered (.inl ⟨rfl, rfl⟩) _, rfl⟩
  · exact ⟨_, hrun fun h => h.run_ok rfl ho fun h => h.run_ok rfl rfl fun h =>
      h.run_unanswered (.inl ⟨rfl, rfl⟩) _, rfl⟩

/-- An issued word whose run is a row of six steps leaves the visible state of that row (R86, R90). -/
theorem issue_of_row {w : Word} (hready : s.Ready) {trace : List BusEvent} {code : Code} {cache : Byte} {rest : List BusOutcome}
    (hrow : ∃ t, run 6 (s.withHost [.write 0x0 4 w]) = .next t ∧ t.trace = trace ∧ t.visible = .ended code cache ∧
      t.outcomes = rest) :
    ∃ t, issue w s = .next t ∧ t.visible = .ended code cache := by
  obtain ⟨u, hrun, -, hvisible, -⟩ := hrow
  exact ⟨_, issue_of_ended_run hready hrun (congrArg Visible.seq hvisible) (by decide), hvisible⟩

/-- How an issued SETCFG or TRIG stands: still in flight, or ended as a row of R86 or R90 has it. -/
theorem issue_configWrite (hready : s.Ready) (hins : (∃ cfg, ins = .setcfg cfg) ∨ ins = .trig) :
    ∃ t, issue (encode ins) s = .next t ∧
      (t.busy = true ∨ t.visible = .ended .busError s.cfgCache ∨ t.visible = .ended .ok (s.payload ins)) := by
  have hrows := configWrite_rows (s := s.withHost [.write 0x0 4 (encode ins)]) hready rfl (decode_encode_configWrite hins) hins
  have hwait (ho : s.outcomes = [] ∨ s.outcomes = [.ok] ∨ s.outcomes = [.ok, .ok]) :
      ∃ t, issue (encode ins) s = .next t ∧ t.busy = true := by
    obtain ⟨u, hrun, hbusy⟩ := configWrite_waits (s := s.withHost [.write 0x0 4 (encode ins)]) hready rfl hins ho
    exact ⟨_, issue_of_run hready hrun, hbusy⟩
  rw [← State.payload_configWrite (s := s) hins (t := s.withHost [.write 0x0 4 (encode ins)]) rfl]
  match ho : s.outcomes with
  | [] => exact (hwait (.inl ho)).imp fun _ => .imp_right .inl
  | [.ok] => exact (hwait (.inr (.inl ho))).imp fun _ => .imp_right .inl
  | [.ok, .ok] => exact (hwait (.inr (.inr ho))).imp fun _ => .imp_right .inl
  | .fail :: rest =>
    obtain ⟨hrow, -, -, -⟩ := hrows rest
    exact (issue_of_row hready (hrow ho)).imp fun _ => .imp_right (.inr ∘ .inl)
  | .ok :: .fail :: rest =>
    obtain ⟨-, hrow, -, -⟩ := hrows rest
    exact (issue_of_row hready (hrow ho)).imp fun _ => .imp_right (.inr ∘ .inl)
  | .ok :: .ok :: .fail :: rest =>
    obtain ⟨-, -, hrow, -⟩ := hrows rest
    exact (issue_of_row hready (hrow ho)).imp fun _ => .imp_right (.inr ∘ .inl)
  | .ok :: .ok :: .ok :: rest =>
    obtain ⟨-, -, -, hrow⟩ := hrows rest
    exact (issue_of_row hready (hrow ho)).imp fun _ => .imp_right (.inr ∘ .inr)

/-- An attempt that has ended shows BUS_ERROR beside the old cache, or OK beside the value written (R86, R90). -/
theorem visible_of_ended_configWrite (hready : s.Ready) (hins : (∃ cfg, ins = .setcfg cfg) ∨ ins = .trig)
    (hissue : issue (encode ins) s = .next t) (hbusy : t.busy = false) :
    t.visible = .ended .busError s.cfgCache ∨ t.visible = .ended .ok (s.payload ins) := by
  obtain ⟨u, hu, hstands⟩ := issue_configWrite hready hins
  cases hissue.symm.trans hu
  exact hstands.resolve_left (by simp [hbusy])

/-- A successful attempt shows OK beside the value written (R86, R90). -/
theorem visible_of_successful_configWrite (hready : s.Ready) (hins : (∃ cfg, ins = .setcfg cfg) ∨ ins = .trig)
    (hissue : issue (encode ins) s = .next t) (hbusy : t.busy = false) (hcode : t.code = .ok) :
    t.visible = .ended .ok (s.payload ins) :=
  (visible_of_ended_configWrite hready hins hissue hbusy).resolve_left fun hvisible =>
    nomatch hcode.symm.trans (congrArg Visible.code hvisible)

/-- Any number of failed attempts leaves the VSC ready, with the cache it had (R33, R114). -/
theorem ready_of_failedAttempts {k : Nat} (hready : s.Ready) (hins : (∃ cfg, ins = .setcfg cfg) ∨ ins = .trig)
    (h : failedAttempts (encode ins) k s t) : t.Ready ∧ t.cfgCache = s.cfgCache := by
  induction k generalizing s with
  | zero => cases h; exact ⟨hready, rfl⟩
  | succ k ih =>
    obtain ⟨m, hissue, hbusy, hcode, hrest⟩ := h
    have hvisible : m.visible = .ended .busError s.cfgCache :=
      (visible_of_ended_configWrite hready hins hissue hbusy).resolve_right fun hvisible =>
        nomatch hcode.symm.trans (congrArg Visible.code hvisible)
    obtain ⟨ht, hcache⟩ := ih ⟨hbusy, congrArg Visible.seq hvisible⟩ hrest
    exact ⟨ht, hcache.trans (congrArg Visible.cfgCache hvisible)⟩

end ConfigWrite

/-- Settles O51: failed attempts leave the VSC ready with the cache it had, and what a successful attempt shows depends on the
cache alone. -/
theorem failedAttemptsLeaveNoTrace : Obligations.FailedAttemptsLeaveNoTrace := by
  unfold Obligations.FailedAttemptsLeaveNoTrace
  intro i k s m t s' t' hins hready hready' hcache hfailed hissue hbusy hcode hissue' hbusy' hcode'
  obtain ⟨hm, hkept⟩ := ready_of_failedAttempts hready hins.symm hfailed
  calc t.visible = .ended .ok (m.payload i) := visible_of_successful_configWrite hm hins.symm hissue hbusy hcode
    _ = .ended .ok (s'.payload i) := by rw [State.payload_configWrite hins.symm (hkept.trans hcache.symm)]
    _ = t'.visible := (visible_of_successful_configWrite hready' hins.symm hissue' hbusy' hcode').symm

end Sys2Proof.Machine

/-! ## The presence poll: one attempt, and the loop with its bound -/

namespace Sys2Proof.Machine

/-- The place of the first OK among the transport's answers; their number, where none is OK (R113). -/
def firstOk (outcomes : List BusOutcome) : Nat := outcomes.findIdx (fun o => o == .ok)

@[simp] theorem firstOk_cons_ok (rest : List BusOutcome) : firstOk (.ok :: rest) = 0 := rfl

@[simp] theorem firstOk_cons_fail (rest : List BusOutcome) : firstOk (.fail :: rest) = firstOk rest + 1 := by
  rw [firstOk, List.findIdx_cons]
  rfl

section Poll

variable {s : State} {o : BusOutcome} {rest : List BusOutcome}

/-- An issued CHKP that the transport answers ends ready, with CODE by that answer and the later answers left (R83, R84). -/
theorem issue_chkp (hready : s.Ready) (ho : s.outcomes = o :: rest) :
    ∃ t, issue (encode .chkp) s = .next t ∧ t.Ready ∧ t.outcomes = rest ∧ (t.code = .ok ↔ o = .ok) := by
  have hrun := chkpTraces (s.withHost [.write 0x0 4 0x00000001]) o rest hready rfl ho
  exact ⟨_, issue_of_ended_run hready hrun rfl (by decide), ⟨rfl, rfl⟩, rfl, by cases o <;> simp⟩

/-- One turn of the poll's loop: PRESENT at an OK, ABSENT at the last attempt it may make, and else one interval waited and the
loop again (R113). -/
theorem presencePoll_succ {p : HostParams} {n : Nat} (hmax : p.retryMax = some n) (hready : s.Ready)
    (ho : s.outcomes = o :: rest) (fuel attempts waited : Nat) :
    ∃ t : State, t.Ready ∧ t.outcomes = rest ∧
      presencePoll p (fuel + 1) attempts waited s =
        if o = .ok then (.present, attempts, waited, t)
        else if n ≤ attempts + 1 then (.absent, attempts + 1, waited, t)
        else presencePoll p fuel (attempts + 1) (waited + p.retryIntervalMs) t := by
  obtain ⟨t, hissue, ht, hrest, hcode⟩ := issue_chkp hready ho
  refine ⟨t, ht, hrest, ?_⟩
  simp [presencePoll, hissue, ht.1, hcode, hmax]

/-- The loop with fuel + 1 attempts left, max(n, 1) together with those made: what it comes to, the failed attempts and the
time waited, by the place of the first OK among the answers to come (R113). -/
theorem presencePoll_answer {p : HostParams} {n : Nat} (hmax : p.retryMax = some n) {fuel attempts : Nat}
    (hready : s.Ready) (hlength : fuel + 1 ≤ s.outcomes.length) (hlast : attempts + (fuel + 1) = max n 1) (waited : Nat) :
    ∃ t, presencePoll p (fuel + 1) attempts waited s =
      if firstOk s.outcomes ≤ fuel then
        (.present, attempts + firstOk s.outcomes, waited + firstOk s.outcomes * p.retryIntervalMs, t)
      else (.absent, attempts + (fuel + 1), waited + fuel * p.retryIntervalMs, t) := by
  induction fuel generalizing attempts waited s with
  | zero =>
    obtain ⟨o, rest, ho⟩ := List.exists_cons_of_length_pos hlength
    obtain ⟨t, -, -, hpoll⟩ := presencePoll_succ hmax hready ho 0 attempts waited
    have hbound : n ≤ attempts + 1 := by omega
    exact ⟨t, by cases o <;> simp [hpoll, ho, hbound]⟩
  | succ fuel ih =>
    obtain ⟨o, rest, ho⟩ := List.exists_cons_of_length_pos (Nat.zero_lt_of_lt hlength)
    obtain ⟨t, ht, hrest, hpoll⟩ := presencePoll_succ hmax hready ho (fuel + 1) attempts waited
    cases o with
    | ok => exact ⟨t, by simp [hpoll, ho]⟩
    | fail =>
      have hbound : ¬ n ≤ attempts + 1 := by omega
      rw [ho, List.length_cons] at hlength
      obtain ⟨u, hu⟩ := ih (attempts := attempts + 1) ht (by rw [hrest]; omega) (by omega) (waited + p.retryIntervalMs)
      have hfailed (x : Nat) : attempts + 1 + x = attempts + (x + 1) := by omega
      have hwaited (x : Nat) : waited + p.retryIntervalMs + x * p.retryIntervalMs = waited + (x + 1) * p.retryIntervalMs := by
        ring
      exact ⟨u, by simp [hpoll, hbound, hu, hrest, ho, hfailed, hwaited]⟩

end Poll

/-- Settles O52: the loop from its first attempt on, with max(n, 1) attempts to make. -/
theorem boundedPresencePoll : Obligations.BoundedPresencePoll := by
  unfold Obligations.BoundedPresencePoll
  intro p n s hmax hready hlength
  obtain ⟨fuel, hfuel⟩ := Nat.exists_eq_add_of_le' (Nat.le_max_right n 1)
  rw [hfuel] at hlength ⊢
  obtain ⟨t, hpoll⟩ := presencePoll_answer hmax hready hlength (by rw [hfuel, Nat.zero_add]) 0
  rw [hpoll]
  refine ⟨fun j (hfirst : firstOk s.outcomes = j) hlt => ?present, fun (hnone : fuel + 1 ≤ firstOk s.outcomes) => ?absent⟩
  case present =>
    rw [hfirst, if_pos (Nat.lt_succ_iff.1 hlt)]
    simp
  case absent =>
    rw [if_neg (Nat.not_le.2 hnone)]
    simp

end Sys2Proof.Machine

/-! ## The reset input, and the wait at IDLE -/

namespace Sys2Proof.Machine

/-- The visible part after the reset input is that of the reset state, whatever ran before (R43, R125, R126). -/
@[simp] theorem State.resetInput_visible (s : State) : s.resetInput.visible = State.reset.visible := rfl

/-- The host's next event is the reset input: it has its effect in one step, in place of the sequencer's turn (R125). -/
theorem step_reset {s : State} {rest : List HostEvent} (hhost : s.host = .reset :: rest) :
    step s = .next ({ s with host := rest } : State).resetInput := by
  rw [step_of_host_cons hhost, State.hostTurn]

/-- Settles O16: the step is the reset input itself, which gives the registers their reset values and leaves the trace, the
transport's answers and the reads as they are. -/
theorem resetInputAbandonsTheCommand : Obligations.ResetInputAbandonsTheCommand := by
  unfold Obligations.ResetInputAbandonsTheCommand
  intro s rest hhost
  exact ⟨_, step_reset hhost, State.resetInput_visible _, State.resetInput_trace _, State.resetInput_outcomes _,
    State.resetInput_bytes _, State.resetInput_reads _, State.resetInput_host _⟩

/-- Settles O17: the sequencer's turn at IDLE answers the same state, and so does every run of such steps. -/
theorem idleWaitsForTheHost : Obligations.IdleWaitsForTheHost := by
  unfold Obligations.IdleWaitsForTheHost
  intro n s hseq hhost
  exact run_at_idle hhost hseq n

end Sys2Proof.Machine
